-- ==== Sys2Proof/Word.lean ====
section
/-! DEFINITION. The machine words of 00_scope.md R5: bytes, 16-bit words and addresses, the tact counter. -/

namespace Sys2Proof

/-- `DATA_WIDTH` (R5): a register, a memory byte, a port byte. -/
abbrev Byte := BitVec 8

/-- A register pair, a memory address (`ADDR_WIDTH`) or a port address (`PORT_WIDTH`), R5. -/
abbrev Word := BitVec 16

/-- `TACT_WIDTH` (R5): the tact counter and the frame index. -/
abbrev Tact := BitVec 64

end Sys2Proof
end

