-- ==== Sys2Proof/Config.lean ====
section
/-! DEFINITION. The implementation parameters of 00_scope.md R5 as plain data, the spec's default values, and the
one free value: what a port read answers (20_memory.md R69). -/

namespace Sys2Proof

/-- A closed range of addresses, `first` to `last`. -/
structure AddrRange where
  first : Word
  last  : Word
deriving DecidableEq, Repr

/-- `PORT_MATCH`: a port is selected when `port &&& mask = value`. -/
structure PortMatch where
  mask  : Word
  value : Word
deriving DecidableEq, Repr

/-- One band of the contention table (R72): `lines` scanlines of `lineTacts` tacts from in-frame tact `start`, of which the
first `activeTacts` wait by `pattern`, with period 8. `phaseStep` is how far the phase moves from one scanline to the
next: 0 where the pattern begins anew on each, `lineTacts` where it runs on in absolute phase. -/
structure ContentionBand where
  start       : Nat
  lines       : Nat
  lineTacts   : Nat
  activeTacts : Nat
  phaseStep   : Nat
  pattern     : List Nat
deriving DecidableEq, Repr

/-- What `PC` holds while the CPU is halted (parameter `HALT_PC` of R5, 49_cpu_control.md R381). -/
inductive HaltPc where
  | next
  | self
deriving DecidableEq, Repr

/-- The parameters of R5. They are no state of the hardware: no step changes them. `State` carries them because a step
takes one argument; so every claim over all states holds for every configuration. DESIGN CHOICE, log 1. -/
structure Config where
  /-- `FRAME_TACTS` -/
  frameTacts     : Nat
  /-- `INTERRUPT_TACT` -/
  interruptTact  : Nat
  /-- `LONGEST_OP_TACTS` -/
  longestOpTacts : Nat
  /-- `CONTENTION` as data: bands, the first that covers a tact deciding; every table on a frame is such a list
  (`contention_covers_every_table`). DESIGN CHOICE, log 3. -/
  contention     : List ContentionBand
  /-- `isContendedAddr`: the addresses in one of these ranges -/
  contendedAddrs : List AddrRange
  /-- `isContendedPort`: whether a port whose number is a contended address is contended -/
  portsAsAddrs   : Bool
  /-- `isContendedPort`: the ports contended by their bits -/
  contendedPorts : List PortMatch
  /-- `isRomAddr`: the addresses in one of these ranges ignore writes -/
  romAddrs       : List AddrRange
  /-- `INT_BUS_BYTE` -/
  intBusByte     : Byte
  /-- `HALT_PC` -/
  haltPc         : HaltPc
deriving DecidableEq, Repr

/-- The base model: every default of R5, R68, R70 to R72. `INTERRUPT_TACT` has no default in the spec: 100, the value its
examples use (DESIGN CHOICE, log 2). -/
def Config.base : Config :=
  { frameTacts := 69888, interruptTact := 100, longestOpTacts := 23,
    contention := [{ start := 14335, lines := 192, lineTacts := 224, activeTacts := 128, phaseStep := 0,
                     pattern := [6, 5, 4, 3, 2, 1, 0, 0] }],
    contendedAddrs := [⟨0x4000, 0x7FFF⟩], portsAsAddrs := true, contendedPorts := [⟨0x0001, 0x0000⟩],
    romAddrs := [⟨0x0000, 0x3FFF⟩], intBusByte := 0xFF, haltPc := .next }

/-- One access to the port space: the record of 20_memory.md R69 and R75. `tact` is `Tacts` after the contention lookup
and before the 4 base tacts. -/
inductive PortEvent where
  | input  (port : Word) (value : Byte) (tact : Tact)
  | output (port : Word) (value : Byte) (tact : Tact)
deriving DecidableEq, Repr

/-- FREE VALUE, log 4: `PORT_READ(port, Tacts, history)` of R69, the port device's answer. Nothing is assumed of it. -/
opaque Config.portRead : Word → Tact → List PortEvent → Byte

end Sys2Proof
end

