-- ==== Sys2Proof/Syntax.lean ====
section
/-! DEFINITION. The instruction set: the operand fields of 30_encoding.md R92 to R98 and `Instr`, one constructor for
each of the 294 rows of spec/opcode_table.json: those with operands first, then those without, each in the table's order
(Lean's compiler numbers at most 244 constructors that carry data). -/

namespace Sys2Proof

/-- The 8-bit register codes of R92; code 6 is the memory operand and has its own constructors. -/
inductive Reg8 where
  | b | c | d | e | h | l | a
deriving DecidableEq, Repr

/-- The pair field `rp` of R93. -/
inductive Pair where
  | bc | de | hl | sp
deriving DecidableEq, Repr

/-- The pair field `rp2` of PUSH and POP, R94. -/
inductive PairQ where
  | bc | de | hl | af
deriving DecidableEq, Repr

/-- The pair field of `ADD XY,pp` (44_alu16.md R263): code 2 is the index register itself. -/
inductive PairX where
  | bc | de | xy | sp
deriving DecidableEq, Repr

/-- The register field under DD or FD (R92, R102): codes 4 and 5 are the index halves. -/
inductive RegX where
  | b | c | d | e | xh | xl | a
deriving DecidableEq, Repr

/-- Which index register a prefix selects: 0xDD `ix`, 0xFD `iy` (R101). -/
inductive Idx where
  | ix | iy
deriving DecidableEq, Repr

/-- The condition field of R95. -/
inductive Cond where
  | nz | z | nc | c | po | pe | p | m
deriving DecidableEq, Repr

/-- One constructor per row of spec/opcode_table.json. `n` is an 8-bit immediate, `nn` a 16-bit one, `d` a signed
displacement, `e` a signed relative offset, `b` a bit number (R90). -/
inductive Instr where
  /-- DJNZ e (R336) -/
  | djnz (e : Byte)
  /-- JR e (R332) -/
  | jr (e : Byte)
  /-- JR cc,e (NZ, Z, NC, C) (R333) -/
  | jrCc (cc : Cond) (e : Byte)
  /-- LD dd,nn (R160) -/
  | ldDdNn (dd : Pair) (nn : Word)
  /-- ADD HL,ss (R260) -/
  | addHlSs (ss : Pair)
  /-- LD (nn),HL (R165) -/
  | ldMemNnHl (nn : Word)
  /-- LD (nn),A (R143) -/
  | ldMemNnA (nn : Word)
  /-- LD HL,(nn) (R162) -/
  | ldHlMemNn (nn : Word)
  /-- LD A,(nn) (R140) -/
  | ldAMemNn (nn : Word)
  /-- INC ss (R264) -/
  | incSs (ss : Pair)
  /-- DEC ss (R266) -/
  | decSs (ss : Pair)
  /-- LD (HL),n (R136) -/
  | ldMemHlN (n : Byte)
  /-- INC r (R229) -/
  | incR (rr : Reg8)
  /-- DEC r (R232) -/
  | decR (rr : Reg8)
  /-- LD r,n (R131) -/
  | ldRN (rr : Reg8) (n : Byte)
  /-- LD (HL),r (R134) -/
  | ldMemHlR (rr : Reg8)
  /-- LD r,(HL) (R132) -/
  | ldRMemHl (rr : Reg8)
  /-- LD r,r' (R130) -/
  | ldRR (rd : Reg8) (rs : Reg8)
  /-- ADD A,r (R221) -/
  | addAR (rr : Reg8)
  /-- ADC A,r (R222) -/
  | adcAR (rr : Reg8)
  /-- SUB r (R223) -/
  | subR (rr : Reg8)
  /-- SBC A,r (R224) -/
  | sbcAR (rr : Reg8)
  /-- AND r (R225) -/
  | andR (rr : Reg8)
  /-- XOR r (R226) -/
  | xorR (rr : Reg8)
  /-- OR r (R227) -/
  | orR (rr : Reg8)
  /-- CP r (R228) -/
  | cpR (rr : Reg8)
  /-- RET cc (R340) -/
  | retCc (cc : Cond)
  /-- POP qq (R172) -/
  | popQq (qq : PairQ)
  /-- JP cc,nn (R331) -/
  | jpCcNn (cc : Cond) (nn : Word)
  /-- JP nn (R330) -/
  | jpNn (nn : Word)
  /-- OUT (n),A (R363) -/
  | outNA (n : Byte)
  /-- IN A,(n) (R360) -/
  | inAN (n : Byte)
  /-- CALL cc,nn (R338) -/
  | callCcNn (cc : Cond) (nn : Word)
  /-- PUSH qq (R170) -/
  | pushQq (qq : PairQ)
  /-- CALL nn (R337) -/
  | callNn (nn : Word)
  /-- ADD A,n (R221) -/
  | addAN (n : Byte)
  /-- ADC A,n (R222) -/
  | adcAN (n : Byte)
  /-- SUB n (R223) -/
  | subN (n : Byte)
  /-- SBC A,n (R224) -/
  | sbcAN (n : Byte)
  /-- AND n (R225) -/
  | andN (n : Byte)
  /-- XOR n (R226) -/
  | xorN (n : Byte)
  /-- OR n (R227) -/
  | orN (n : Byte)
  /-- CP n (R228) -/
  | cpN (n : Byte)
  /-- RST p, the target being 8 * t (R343) -/
  | rstP (t : BitVec 3)
  /-- RLC r (R285) -/
  | rlcR (rr : Reg8)
  /-- RRC r (R286) -/
  | rrcR (rr : Reg8)
  /-- RL r (R287) -/
  | rlR (rr : Reg8)
  /-- RR r (R288) -/
  | rrR (rr : Reg8)
  /-- SLA r (R289) -/
  | slaR (rr : Reg8)
  /-- SRA r (R290) -/
  | sraR (rr : Reg8)
  /-- SLL r (R291) -/
  | sllR (rr : Reg8)
  /-- SRL r (R292) -/
  | srlR (rr : Reg8)
  /-- BIT b,(HL) (R311) -/
  | bitMemHl (b : BitVec 3)
  /-- BIT b,r (R310) -/
  | bitR (b : BitVec 3) (rr : Reg8)
  /-- RES b,(HL) (R317) -/
  | resMemHl (b : BitVec 3)
  /-- RES b,r (R316) -/
  | resR (b : BitVec 3) (rr : Reg8)
  /-- SET b,(HL) (R314) -/
  | setMemHl (b : BitVec 3)
  /-- SET b,r (R313) -/
  | setR (b : BitVec 3) (rr : Reg8)
  /-- IN r,(C) (R361) -/
  | inRC (rr : Reg8)
  /-- OUT (C),r (R364) -/
  | outCR (rr : Reg8)
  /-- SBC HL,ss (R262) -/
  | sbcHlSs (ss : Pair)
  /-- ADC HL,ss (R261) -/
  | adcHlSs (ss : Pair)
  /-- LD (nn),dd (R166) -/
  | ldMemNnDd (dd : Pair) (nn : Word)
  /-- LD dd,(nn) (R163) -/
  | ldDdMemNn (dd : Pair) (nn : Word)
  /-- NEG, opcode bits 5:3 = copy (000 documented) (R237) -/
  | neg (copy : BitVec 3)
  /-- RETN, opcode bits 5:3 = copy (000 documented, 001 is RETI) (R342) -/
  | retn (copy : BitVec 3)
  /-- IM 0, opcode bits 5 and 3 free (R384) -/
  | im0 (b5 : Bool) (b3 : Bool)
  /-- IM 1, opcode bit 5 free (R385) -/
  | im1 (b5 : Bool)
  /-- IM 2, opcode bit 5 free (R386) -/
  | im2 (b5 : Bool)
  /-- an undefined ED opcode, the second byte being op (R388) -/
  | nopEd (op : Byte)
  /-- LD IX,nn (R161) -/
  | ldIxNn (nn : Word)
  /-- LD (nn),IX (R167) -/
  | ldMemNnIx (nn : Word)
  /-- LD IX,(nn) (R164) -/
  | ldIxMemNn (nn : Word)
  /-- ADD IX,pp (R263) -/
  | addIxPp (pp : PairX)
  /-- LD IXH,n (R149) -/
  | ldIxhN (n : Byte)
  /-- LD IXL,n (R149) -/
  | ldIxlN (n : Byte)
  /-- INC (IX+d) (R231) -/
  | incMemIx (d : Byte)
  /-- DEC (IX+d) (R234) -/
  | decMemIx (d : Byte)
  /-- LD (IX+d),n (R137) -/
  | ldMemIxN (d : Byte) (n : Byte)
  /-- LD (IX+d),r (R135) -/
  | ldMemIxR (d : Byte) (rr : Reg8)
  /-- LD r,(IX+d) (R133) -/
  | ldRMemIx (rr : Reg8) (d : Byte)
  /-- LD IXH,r (r from B, C, D, E, IXH, IXL, A) (R148) -/
  | ldIxhR (rx : RegX)
  /-- LD IXL,r (r from B, C, D, E, IXH, IXL, A) (R148) -/
  | ldIxlR (rx : RegX)
  /-- LD r,IXH (r from B, C, D, E, A) (R148) -/
  | ldRIxh (rr : Reg8)
  /-- LD r,IXL (r from B, C, D, E, A) (R148) -/
  | ldRIxl (rr : Reg8)
  /-- ADD A,(IX+d) (R221) -/
  | addAMemIx (d : Byte)
  /-- ADC A,(IX+d) (R222) -/
  | adcAMemIx (d : Byte)
  /-- SUB (IX+d) (R223) -/
  | subMemIx (d : Byte)
  /-- SBC A,(IX+d) (R224) -/
  | sbcAMemIx (d : Byte)
  /-- AND (IX+d) (R225) -/
  | andMemIx (d : Byte)
  /-- XOR (IX+d) (R226) -/
  | xorMemIx (d : Byte)
  /-- OR (IX+d) (R227) -/
  | orMemIx (d : Byte)
  /-- CP (IX+d) (R228) -/
  | cpMemIx (d : Byte)
  /-- an ignored IX prefix before the base opcode base (R389) -/
  | ixIgnored (base : Instr)
  /-- LD IY,nn (R161) -/
  | ldIyNn (nn : Word)
  /-- LD (nn),IY (R167) -/
  | ldMemNnIy (nn : Word)
  /-- LD IY,(nn) (R164) -/
  | ldIyMemNn (nn : Word)
  /-- ADD IY,pp (R263) -/
  | addIyPp (pp : PairX)
  /-- LD IYH,n (R149) -/
  | ldIyhN (n : Byte)
  /-- LD IYL,n (R149) -/
  | ldIylN (n : Byte)
  /-- INC (IY+d) (R231) -/
  | incMemIy (d : Byte)
  /-- DEC (IY+d) (R234) -/
  | decMemIy (d : Byte)
  /-- LD (IY+d),n (R137) -/
  | ldMemIyN (d : Byte) (n : Byte)
  /-- LD (IY+d),r (R135) -/
  | ldMemIyR (d : Byte) (rr : Reg8)
  /-- LD r,(IY+d) (R133) -/
  | ldRMemIy (rr : Reg8) (d : Byte)
  /-- LD IYH,r (r from B, C, D, E, IYH, IYL, A) (R148) -/
  | ldIyhR (rx : RegX)
  /-- LD IYL,r (r from B, C, D, E, IYH, IYL, A) (R148) -/
  | ldIylR (rx : RegX)
  /-- LD r,IYH (r from B, C, D, E, A) (R148) -/
  | ldRIyh (rr : Reg8)
  /-- LD r,IYL (r from B, C, D, E, A) (R148) -/
  | ldRIyl (rr : Reg8)
  /-- ADD A,(IY+d) (R221) -/
  | addAMemIy (d : Byte)
  /-- ADC A,(IY+d) (R222) -/
  | adcAMemIy (d : Byte)
  /-- SUB (IY+d) (R223) -/
  | subMemIy (d : Byte)
  /-- SBC A,(IY+d) (R224) -/
  | sbcAMemIy (d : Byte)
  /-- AND (IY+d) (R225) -/
  | andMemIy (d : Byte)
  /-- XOR (IY+d) (R226) -/
  | xorMemIy (d : Byte)
  /-- OR (IY+d) (R227) -/
  | orMemIy (d : Byte)
  /-- CP (IY+d) (R228) -/
  | cpMemIy (d : Byte)
  /-- an ignored IY prefix before the base opcode base (R389) -/
  | iyIgnored (base : Instr)
  /-- BIT b,(IX+d), bits 2:0 of the final byte = z (110 documented) (R312) -/
  | bitMemIx (b : BitVec 3) (z : BitVec 3) (d : Byte)
  /-- RLC (IX+d) (R285) -/
  | rlcMemIx (d : Byte)
  /-- LD r,RLC (IX+d) (R285) -/
  | ldRRlcMemIx (rr : Reg8) (d : Byte)
  /-- RRC (IX+d) (R286) -/
  | rrcMemIx (d : Byte)
  /-- LD r,RRC (IX+d) (R286) -/
  | ldRRrcMemIx (rr : Reg8) (d : Byte)
  /-- RL (IX+d) (R287) -/
  | rlMemIx (d : Byte)
  /-- LD r,RL (IX+d) (R287) -/
  | ldRRlMemIx (rr : Reg8) (d : Byte)
  /-- RR (IX+d) (R288) -/
  | rrMemIx (d : Byte)
  /-- LD r,RR (IX+d) (R288) -/
  | ldRRrMemIx (rr : Reg8) (d : Byte)
  /-- SLA (IX+d) (R289) -/
  | slaMemIx (d : Byte)
  /-- LD r,SLA (IX+d) (R289) -/
  | ldRSlaMemIx (rr : Reg8) (d : Byte)
  /-- SRA (IX+d) (R290) -/
  | sraMemIx (d : Byte)
  /-- LD r,SRA (IX+d) (R290) -/
  | ldRSraMemIx (rr : Reg8) (d : Byte)
  /-- SLL (IX+d) (R291) -/
  | sllMemIx (d : Byte)
  /-- LD r,SLL (IX+d) (R291) -/
  | ldRSllMemIx (rr : Reg8) (d : Byte)
  /-- SRL (IX+d) (R292) -/
  | srlMemIx (d : Byte)
  /-- LD r,SRL (IX+d) (R292) -/
  | ldRSrlMemIx (rr : Reg8) (d : Byte)
  /-- RES b,(IX+d) (R318) -/
  | resMemIx (b : BitVec 3) (d : Byte)
  /-- LD r,RES b,(IX+d) (R318) -/
  | ldRResMemIx (rr : Reg8) (b : BitVec 3) (d : Byte)
  /-- SET b,(IX+d) (R315) -/
  | setMemIx (b : BitVec 3) (d : Byte)
  /-- LD r,SET b,(IX+d) (R315) -/
  | ldRSetMemIx (rr : Reg8) (b : BitVec 3) (d : Byte)
  /-- BIT b,(IY+d), bits 2:0 of the final byte = z (110 documented) (R312) -/
  | bitMemIy (b : BitVec 3) (z : BitVec 3) (d : Byte)
  /-- RLC (IY+d) (R285) -/
  | rlcMemIy (d : Byte)
  /-- LD r,RLC (IY+d) (R285) -/
  | ldRRlcMemIy (rr : Reg8) (d : Byte)
  /-- RRC (IY+d) (R286) -/
  | rrcMemIy (d : Byte)
  /-- LD r,RRC (IY+d) (R286) -/
  | ldRRrcMemIy (rr : Reg8) (d : Byte)
  /-- RL (IY+d) (R287) -/
  | rlMemIy (d : Byte)
  /-- LD r,RL (IY+d) (R287) -/
  | ldRRlMemIy (rr : Reg8) (d : Byte)
  /-- RR (IY+d) (R288) -/
  | rrMemIy (d : Byte)
  /-- LD r,RR (IY+d) (R288) -/
  | ldRRrMemIy (rr : Reg8) (d : Byte)
  /-- SLA (IY+d) (R289) -/
  | slaMemIy (d : Byte)
  /-- LD r,SLA (IY+d) (R289) -/
  | ldRSlaMemIy (rr : Reg8) (d : Byte)
  /-- SRA (IY+d) (R290) -/
  | sraMemIy (d : Byte)
  /-- LD r,SRA (IY+d) (R290) -/
  | ldRSraMemIy (rr : Reg8) (d : Byte)
  /-- SLL (IY+d) (R291) -/
  | sllMemIy (d : Byte)
  /-- LD r,SLL (IY+d) (R291) -/
  | ldRSllMemIy (rr : Reg8) (d : Byte)
  /-- SRL (IY+d) (R292) -/
  | srlMemIy (d : Byte)
  /-- LD r,SRL (IY+d) (R292) -/
  | ldRSrlMemIy (rr : Reg8) (d : Byte)
  /-- RES b,(IY+d) (R318) -/
  | resMemIy (b : BitVec 3) (d : Byte)
  /-- LD r,RES b,(IY+d) (R318) -/
  | ldRResMemIy (rr : Reg8) (b : BitVec 3) (d : Byte)
  /-- SET b,(IY+d) (R315) -/
  | setMemIy (b : BitVec 3) (d : Byte)
  /-- LD r,SET b,(IY+d) (R315) -/
  | ldRSetMemIy (rr : Reg8) (b : BitVec 3) (d : Byte)
  /-- NOP (R380) -/
  | nop
  /-- EX AF,AF' (R191) -/
  | exAfAf
  /-- LD (BC),A (R141) -/
  | ldMemBcA
  /-- LD (DE),A (R142) -/
  | ldMemDeA
  /-- LD A,(BC) (R138) -/
  | ldAMemBc
  /-- LD A,(DE) (R139) -/
  | ldAMemDe
  /-- INC (HL) (R230) -/
  | incMemHl
  /-- DEC (HL) (R233) -/
  | decMemHl
  /-- RLCA (R280) -/
  | rlca
  /-- RRCA (R282) -/
  | rrca
  /-- RLA (R281) -/
  | rla
  /-- RRA (R283) -/
  | rra
  /-- DAA (R235) -/
  | daa
  /-- CPL (R236) -/
  | cpl
  /-- SCF (R239) -/
  | scf
  /-- CCF (R238) -/
  | ccf
  /-- HALT (R381) -/
  | halt
  /-- ADD A,(HL) (R221) -/
  | addAMemHl
  /-- ADC A,(HL) (R222) -/
  | adcAMemHl
  /-- SUB (HL) (R223) -/
  | subMemHl
  /-- SBC A,(HL) (R224) -/
  | sbcAMemHl
  /-- AND (HL) (R225) -/
  | andMemHl
  /-- XOR (HL) (R226) -/
  | xorMemHl
  /-- OR (HL) (R227) -/
  | orMemHl
  /-- CP (HL) (R228) -/
  | cpMemHl
  /-- RET (R339) -/
  | ret
  /-- EXX (R192) -/
  | exx
  /-- JP (HL) (R334) -/
  | jpHl
  /-- LD SP,HL (R168) -/
  | ldSpHl
  /-- the CB prefix with whatever byte follows it (R99) -/
  | cbPrefix
  /-- EX (SP),HL (R193) -/
  | exSpHl
  /-- EX DE,HL (R190) -/
  | exDeHl
  /-- DI (R382) -/
  | di
  /-- EI (R383) -/
  | ei
  /-- the DD prefix with whatever bytes follow it (R101) -/
  | ddPrefix
  /-- the ED prefix with whatever bytes follow it (R100) -/
  | edPrefix
  /-- the FD prefix with whatever bytes follow it (R101) -/
  | fdPrefix
  /-- RLC (HL) (R285) -/
  | rlcMemHl
  /-- RRC (HL) (R286) -/
  | rrcMemHl
  /-- RL (HL) (R287) -/
  | rlMemHl
  /-- RR (HL) (R288) -/
  | rrMemHl
  /-- SLA (HL) (R289) -/
  | slaMemHl
  /-- SRA (HL) (R290) -/
  | sraMemHl
  /-- SLL (HL) (R291) -/
  | sllMemHl
  /-- SRL (HL) (R292) -/
  | srlMemHl
  /-- IN (C) (R362) -/
  | inC
  /-- OUT (C),0 (R365) -/
  | outC0
  /-- RETI (R341) -/
  | reti
  /-- LD I,A (R146) -/
  | ldIA
  /-- LD R,A (R147) -/
  | ldRefreshA
  /-- LD A,I (R144) -/
  | ldAI
  /-- LD A,R (R145) -/
  | ldARefresh
  /-- RRD (R294) -/
  | rrd
  /-- RLD (R293) -/
  | rld
  /-- LDI (R196) -/
  | ldi
  /-- CPI (R200) -/
  | cpi
  /-- INI (R367) -/
  | ini
  /-- OUTI (R371) -/
  | outi
  /-- LDD (R198) -/
  | ldd
  /-- CPD (R202) -/
  | cpd
  /-- IND (R369) -/
  | ind
  /-- OUTD (R373) -/
  | outd
  /-- LDIR (R197) -/
  | ldir
  /-- CPIR (R201) -/
  | cpir
  /-- INIR (R368) -/
  | inir
  /-- OTIR (R372) -/
  | otir
  /-- LDDR (R199) -/
  | lddr
  /-- CPDR (R203) -/
  | cpdr
  /-- INDR (R370) -/
  | indr
  /-- OTDR (R374) -/
  | otdr
  /-- the IX CB prefix with whatever displacement and final opcode follow it (R104) -/
  | ixCbPrefix
  /-- the redundant IX prefix byte before DD; one byte, the second is only looked at (R387) -/
  | redundantIxDd
  /-- the redundant IX prefix byte before FD; one byte, the second is only looked at (R387) -/
  | redundantIxFd
  /-- the redundant IX prefix byte before ED; one byte, the second is only looked at (R387) -/
  | redundantIxEd
  /-- INC IX (R265) -/
  | incIx
  /-- DEC IX (R267) -/
  | decIx
  /-- INC IXH (R229) -/
  | incIxh
  /-- DEC IXH (R232) -/
  | decIxh
  /-- INC IXL (R229) -/
  | incIxl
  /-- DEC IXL (R232) -/
  | decIxl
  /-- HALT under an ignored IX prefix (R389) -/
  | haltIx
  /-- ADD A,IXH (R221) -/
  | addAIxh
  /-- ADD A,IXL (R221) -/
  | addAIxl
  /-- ADC A,IXH (R222) -/
  | adcAIxh
  /-- ADC A,IXL (R222) -/
  | adcAIxl
  /-- SUB IXH (R223) -/
  | subIxh
  /-- SUB IXL (R223) -/
  | subIxl
  /-- SBC A,IXH (R224) -/
  | sbcAIxh
  /-- SBC A,IXL (R224) -/
  | sbcAIxl
  /-- AND IXH (R225) -/
  | andIxh
  /-- AND IXL (R225) -/
  | andIxl
  /-- XOR IXH (R226) -/
  | xorIxh
  /-- XOR IXL (R226) -/
  | xorIxl
  /-- OR IXH (R227) -/
  | orIxh
  /-- OR IXL (R227) -/
  | orIxl
  /-- CP IXH (R228) -/
  | cpIxh
  /-- CP IXL (R228) -/
  | cpIxl
  /-- POP IX (R173) -/
  | popIx
  /-- EX (SP),IX (R194) -/
  | exSpIx
  /-- PUSH IX (R171) -/
  | pushIx
  /-- JP (IX) (R335) -/
  | jpIx
  /-- LD SP,IX (R169) -/
  | ldSpIx
  /-- the IY CB prefix with whatever displacement and final opcode follow it (R104) -/
  | iyCbPrefix
  /-- the redundant IY prefix byte before DD; one byte, the second is only looked at (R387) -/
  | redundantIyDd
  /-- the redundant IY prefix byte before FD; one byte, the second is only looked at (R387) -/
  | redundantIyFd
  /-- the redundant IY prefix byte before ED; one byte, the second is only looked at (R387) -/
  | redundantIyEd
  /-- INC IY (R265) -/
  | incIy
  /-- DEC IY (R267) -/
  | decIy
  /-- INC IYH (R229) -/
  | incIyh
  /-- DEC IYH (R232) -/
  | decIyh
  /-- INC IYL (R229) -/
  | incIyl
  /-- DEC IYL (R232) -/
  | decIyl
  /-- HALT under an ignored IY prefix (R389) -/
  | haltIy
  /-- ADD A,IYH (R221) -/
  | addAIyh
  /-- ADD A,IYL (R221) -/
  | addAIyl
  /-- ADC A,IYH (R222) -/
  | adcAIyh
  /-- ADC A,IYL (R222) -/
  | adcAIyl
  /-- SUB IYH (R223) -/
  | subIyh
  /-- SUB IYL (R223) -/
  | subIyl
  /-- SBC A,IYH (R224) -/
  | sbcAIyh
  /-- SBC A,IYL (R224) -/
  | sbcAIyl
  /-- AND IYH (R225) -/
  | andIyh
  /-- AND IYL (R225) -/
  | andIyl
  /-- XOR IYH (R226) -/
  | xorIyh
  /-- XOR IYL (R226) -/
  | xorIyl
  /-- OR IYH (R227) -/
  | orIyh
  /-- OR IYL (R227) -/
  | orIyl
  /-- CP IYH (R228) -/
  | cpIyh
  /-- CP IYL (R228) -/
  | cpIyl
  /-- POP IY (R173) -/
  | popIy
  /-- EX (SP),IY (R194) -/
  | exSpIy
  /-- PUSH IY (R171) -/
  | pushIy
  /-- JP (IY) (R335) -/
  | jpIy
  /-- LD SP,IY (R169) -/
  | ldSpIy
deriving DecidableEq, Repr

end Sys2Proof
end

