-- ==== Sys2Proof/WellFormed.lean ====
section
/-! DEFINITION. Which terms of `Instr` stand for an instruction: the field values 30_encoding.md excludes. Every
constructor is named; there is no wildcard. -/

namespace Sys2Proof

/-- `H` and `L`, the codes an index prefix changes (R102). -/
def Reg8.isHorL : Reg8 → Bool
  | .h | .l => true
  | .b | .c | .d | .e | .a => false

/-- `HL`, the pair an index prefix changes (R101). -/
def Pair.isHl : Pair → Bool
  | .hl => true
  | .bc | .de | .sp => false

/-- `HL` in the PUSH and POP field (R101). -/
def PairQ.isHl : PairQ → Bool
  | .hl => true
  | .bc | .de | .af => false

/-- The conditions `JR` has: the first four codes (R37, R95). -/
def Cond.forJr : Cond → Bool
  | .nz | .z | .nc | .c => true
  | .po | .pe | .p | .m => false

/-- The second bytes that the table of R100 names; every other one is a no-op (R105). -/
def edDefined (op : Byte) : Bool :=
  (0x40 ≤ op.toNat && op.toNat ≤ 0x7F && op != 0x77 && op != 0x7F) ||
  (0xA0 ≤ op.toNat && op.toNat ≤ 0xBF && op.toNat % 8 < 4)

/-- The opcodes of the base table that an index prefix leaves as they are: the cells `·` of the grid R114, less `HALT`,
whose prefixed forms have rows of their own. -/
def Instr.prefixFree : Instr → Bool
  | .nop | .exAfAf | .djnz _ | .jr _ | .jrCc _ _ | .ldMemBcA | .ldMemDeA | .ldMemNnA _ | .ldAMemBc | .ldAMemDe
  | .ldAMemNn _ | .rlca | .rrca | .rla | .rra | .daa | .cpl | .scf | .ccf | .retCc _ | .ret | .exx | .jpCcNn _ _
  | .jpNn _ | .outNA _ | .inAN _ | .exDeHl | .di | .ei | .callCcNn _ _ | .callNn _ | .addAN _ | .adcAN _ | .subN _
  | .sbcAN _ | .andN _ | .xorN _ | .orN _ | .cpN _ | .rstP _ => true
  | .ldDdNn dd _ => !dd.isHl
  | .incSs ss => !ss.isHl
  | .decSs ss => !ss.isHl
  | .incR rr => !rr.isHorL
  | .decR rr => !rr.isHorL
  | .ldRN rr _ => !rr.isHorL
  | .addAR rr => !rr.isHorL
  | .adcAR rr => !rr.isHorL
  | .subR rr => !rr.isHorL
  | .sbcAR rr => !rr.isHorL
  | .andR rr => !rr.isHorL
  | .xorR rr => !rr.isHorL
  | .orR rr => !rr.isHorL
  | .cpR rr => !rr.isHorL
  | .ldRR rd rs => !rd.isHorL && !rs.isHorL
  | .popQq qq => !qq.isHl
  | .pushQq qq => !qq.isHl
  | .addHlSs _ | .ldMemNnHl _ | .ldHlMemNn _ | .incMemHl | .decMemHl | .ldMemHlN _ | .halt | .ldMemHlR _ | .ldRMemHl _
  | .addAMemHl | .adcAMemHl | .subMemHl | .sbcAMemHl | .andMemHl | .xorMemHl | .orMemHl | .cpMemHl | .jpHl | .ldSpHl
  | .cbPrefix | .exSpHl | .ddPrefix | .edPrefix | .fdPrefix | .rlcMemHl | .rlcR _ | .rrcMemHl | .rrcR _ | .rlMemHl
  | .rlR _ | .rrMemHl | .rrR _ | .slaMemHl | .slaR _ | .sraMemHl | .sraR _ | .sllMemHl | .sllR _ | .srlMemHl | .srlR _
  | .bitMemHl _ | .bitR _ _ | .resMemHl _ | .resR _ _ | .setMemHl _ | .setR _ _ | .inC | .inRC _ | .outC0 | .outCR _
  | .sbcHlSs _ | .adcHlSs _ | .ldMemNnDd _ _ | .ldDdMemNn _ _ | .neg _ | .reti | .retn _ | .im0 _ _ | .im1 _ | .im2 _
  | .ldIA | .ldRefreshA | .ldAI | .ldARefresh | .rrd | .rld | .ldi | .cpi | .ini | .outi | .ldd | .cpd | .ind | .outd
  | .ldir | .cpir | .inir | .otir | .lddr | .cpdr | .indr | .otdr | .nopEd _ | .ixCbPrefix | .redundantIxDd
  | .redundantIxFd | .redundantIxEd | .ldIxNn _ | .ldMemNnIx _ | .ldIxMemNn _ | .incIx | .decIx | .addIxPp _ | .incIxh
  | .decIxh | .ldIxhN _ | .incIxl | .decIxl | .ldIxlN _ | .incMemIx _ | .decMemIx _ | .ldMemIxN _ _ | .haltIx
  | .ldMemIxR _ _ | .ldRMemIx _ _ | .ldIxhR _ | .ldIxlR _ | .ldRIxh _ | .ldRIxl _ | .addAMemIx _ | .addAIxh | .addAIxl
  | .adcAMemIx _ | .adcAIxh | .adcAIxl | .subMemIx _ | .subIxh | .subIxl | .sbcAMemIx _ | .sbcAIxh | .sbcAIxl
  | .andMemIx _ | .andIxh | .andIxl | .xorMemIx _ | .xorIxh | .xorIxl | .orMemIx _ | .orIxh | .orIxl | .cpMemIx _
  | .cpIxh | .cpIxl | .popIx | .exSpIx | .pushIx | .jpIx | .ldSpIx | .ixIgnored _ | .iyCbPrefix | .redundantIyDd
  | .redundantIyFd | .redundantIyEd | .ldIyNn _ | .ldMemNnIy _ | .ldIyMemNn _ | .incIy | .decIy | .addIyPp _ | .incIyh
  | .decIyh | .ldIyhN _ | .incIyl | .decIyl | .ldIylN _ | .incMemIy _ | .decMemIy _ | .ldMemIyN _ _ | .haltIy
  | .ldMemIyR _ _ | .ldRMemIy _ _ | .ldIyhR _ | .ldIylR _ | .ldRIyh _ | .ldRIyl _ | .addAMemIy _ | .addAIyh | .addAIyl
  | .adcAMemIy _ | .adcAIyh | .adcAIyl | .subMemIy _ | .subIyh | .subIyl | .sbcAMemIy _ | .sbcAIyh | .sbcAIyl
  | .andMemIy _ | .andIyh | .andIyl | .xorMemIy _ | .xorIyh | .xorIyl | .orMemIy _ | .orIyh | .orIyl | .cpMemIy _
  | .cpIyh | .cpIyl | .popIy | .exSpIy | .pushIy | .jpIy | .ldSpIy | .iyIgnored _ | .bitMemIx _ _ _ | .rlcMemIx _
  | .ldRRlcMemIx _ _ | .rrcMemIx _ | .ldRRrcMemIx _ _ | .rlMemIx _ | .ldRRlMemIx _ _ | .rrMemIx _ | .ldRRrMemIx _ _
  | .slaMemIx _ | .ldRSlaMemIx _ _ | .sraMemIx _ | .ldRSraMemIx _ _ | .sllMemIx _ | .ldRSllMemIx _ _ | .srlMemIx _
  | .ldRSrlMemIx _ _ | .resMemIx _ _ | .ldRResMemIx _ _ _ | .setMemIx _ _ | .ldRSetMemIx _ _ _ | .bitMemIy _ _ _
  | .rlcMemIy _ | .ldRRlcMemIy _ _ | .rrcMemIy _ | .ldRRrcMemIy _ _ | .rlMemIy _ | .ldRRlMemIy _ _ | .rrMemIy _
  | .ldRRrMemIy _ _ | .slaMemIy _ | .ldRSlaMemIy _ _ | .sraMemIy _ | .ldRSraMemIy _ _ | .sllMemIy _ | .ldRSllMemIy _ _
  | .srlMemIy _ | .ldRSrlMemIy _ _ | .resMemIy _ _ | .ldRResMemIy _ _ _ | .setMemIy _ _ | .ldRSetMemIy _ _ _ => false

/-- A term that stands for an instruction. The checks: `JR cc` has four conditions (R95); `LD r,XYH` and `LD r,XYL` have
no H or L destination (R102); `ED 4D` is RETI, not a copy of RETN (R342); the no-op of R105 has an undefined second
byte; an ignored prefix stands before an opcode it does not affect (R389). -/
def Instr.wf : Instr → Bool
  | .jrCc cc _ => cc.forJr
  | .ldRIxh rr => !rr.isHorL
  | .ldRIxl rr => !rr.isHorL
  | .ldRIyh rr => !rr.isHorL
  | .ldRIyl rr => !rr.isHorL
  | .retn copy => copy != 1
  | .nopEd op => !edDefined op
  | .ixIgnored base => base.prefixFree && base.wf
  | .iyIgnored base => base.prefixFree && base.wf
  | .nop | .exAfAf | .djnz _ | .jr _ | .ldDdNn _ _ | .addHlSs _ | .ldMemBcA | .ldMemDeA | .ldMemNnHl _ | .ldMemNnA _
  | .ldAMemBc | .ldAMemDe | .ldHlMemNn _ | .ldAMemNn _ | .incSs _ | .decSs _ | .incMemHl | .decMemHl | .ldMemHlN _
  | .incR _ | .decR _ | .ldRN _ _ | .rlca | .rrca | .rla | .rra | .daa | .cpl | .scf | .ccf | .halt | .ldMemHlR _
  | .ldRMemHl _ | .ldRR _ _ | .addAMemHl | .addAR _ | .adcAMemHl | .adcAR _ | .subMemHl | .subR _ | .sbcAMemHl
  | .sbcAR _ | .andMemHl | .andR _ | .xorMemHl | .xorR _ | .orMemHl | .orR _ | .cpMemHl | .cpR _ | .retCc _ | .popQq _
  | .ret | .exx | .jpHl | .ldSpHl | .jpCcNn _ _ | .jpNn _ | .cbPrefix | .outNA _ | .inAN _ | .exSpHl | .exDeHl | .di
  | .ei | .callCcNn _ _ | .pushQq _ | .callNn _ | .ddPrefix | .edPrefix | .fdPrefix | .addAN _ | .adcAN _ | .subN _
  | .sbcAN _ | .andN _ | .xorN _ | .orN _ | .cpN _ | .rstP _ | .rlcMemHl | .rlcR _ | .rrcMemHl | .rrcR _ | .rlMemHl
  | .rlR _ | .rrMemHl | .rrR _ | .slaMemHl | .slaR _ | .sraMemHl | .sraR _ | .sllMemHl | .sllR _ | .srlMemHl | .srlR _
  | .bitMemHl _ | .bitR _ _ | .resMemHl _ | .resR _ _ | .setMemHl _ | .setR _ _ | .inC | .inRC _ | .outC0 | .outCR _
  | .sbcHlSs _ | .adcHlSs _ | .ldMemNnDd _ _ | .ldDdMemNn _ _ | .neg _ | .reti | .im0 _ _ | .im1 _ | .im2 _ | .ldIA
  | .ldRefreshA | .ldAI | .ldARefresh | .rrd | .rld | .ldi | .cpi | .ini | .outi | .ldd | .cpd | .ind | .outd | .ldir
  | .cpir | .inir | .otir | .lddr | .cpdr | .indr | .otdr | .ixCbPrefix | .redundantIxDd | .redundantIxFd
  | .redundantIxEd | .ldIxNn _ | .ldMemNnIx _ | .ldIxMemNn _ | .incIx | .decIx | .addIxPp _ | .incIxh | .decIxh
  | .ldIxhN _ | .incIxl | .decIxl | .ldIxlN _ | .incMemIx _ | .decMemIx _ | .ldMemIxN _ _ | .haltIx | .ldMemIxR _ _
  | .ldRMemIx _ _ | .ldIxhR _ | .ldIxlR _ | .addAMemIx _ | .addAIxh | .addAIxl | .adcAMemIx _ | .adcAIxh | .adcAIxl
  | .subMemIx _ | .subIxh | .subIxl | .sbcAMemIx _ | .sbcAIxh | .sbcAIxl | .andMemIx _ | .andIxh | .andIxl
  | .xorMemIx _ | .xorIxh | .xorIxl | .orMemIx _ | .orIxh | .orIxl | .cpMemIx _ | .cpIxh | .cpIxl | .popIx | .exSpIx
  | .pushIx | .jpIx | .ldSpIx | .iyCbPrefix | .redundantIyDd | .redundantIyFd | .redundantIyEd | .ldIyNn _
  | .ldMemNnIy _ | .ldIyMemNn _ | .incIy | .decIy | .addIyPp _ | .incIyh | .decIyh | .ldIyhN _ | .incIyl | .decIyl
  | .ldIylN _ | .incMemIy _ | .decMemIy _ | .ldMemIyN _ _ | .haltIy | .ldMemIyR _ _ | .ldRMemIy _ _ | .ldIyhR _
  | .ldIylR _ | .addAMemIy _ | .addAIyh | .addAIyl | .adcAMemIy _ | .adcAIyh | .adcAIyl | .subMemIy _ | .subIyh
  | .subIyl | .sbcAMemIy _ | .sbcAIyh | .sbcAIyl | .andMemIy _ | .andIyh | .andIyl | .xorMemIy _ | .xorIyh | .xorIyl
  | .orMemIy _ | .orIyh | .orIyl | .cpMemIy _ | .cpIyh | .cpIyl | .popIy | .exSpIy | .pushIy | .jpIy | .ldSpIy
  | .bitMemIx _ _ _ | .rlcMemIx _ | .ldRRlcMemIx _ _ | .rrcMemIx _ | .ldRRrcMemIx _ _ | .rlMemIx _ | .ldRRlMemIx _ _
  | .rrMemIx _ | .ldRRrMemIx _ _ | .slaMemIx _ | .ldRSlaMemIx _ _ | .sraMemIx _ | .ldRSraMemIx _ _ | .sllMemIx _
  | .ldRSllMemIx _ _ | .srlMemIx _ | .ldRSrlMemIx _ _ | .resMemIx _ _ | .ldRResMemIx _ _ _ | .setMemIx _ _
  | .ldRSetMemIx _ _ _ | .bitMemIy _ _ _ | .rlcMemIy _ | .ldRRlcMemIy _ _ | .rrcMemIy _ | .ldRRrcMemIy _ _
  | .rlMemIy _ | .ldRRlMemIy _ _ | .rrMemIy _ | .ldRRrMemIy _ _ | .slaMemIy _ | .ldRSlaMemIy _ _ | .sraMemIy _
  | .ldRSraMemIy _ _ | .sllMemIy _ | .ldRSllMemIy _ _ | .srlMemIy _ | .ldRSrlMemIy _ _ | .resMemIy _ _
  | .ldRResMemIy _ _ _ | .setMemIy _ _ | .ldRSetMemIy _ _ _ => true

/-- The six rows of the table that name a prefix, not an instruction (R99 to R101, R104). -/
def Instr.isPrefixRow : Instr → Bool
  | .cbPrefix | .ddPrefix | .edPrefix | .fdPrefix | .ixCbPrefix | .iyCbPrefix => true
  | .nop | .exAfAf | .djnz _ | .jr _ | .jrCc _ _ | .ldDdNn _ _ | .addHlSs _ | .ldMemBcA | .ldMemDeA | .ldMemNnHl _
  | .ldMemNnA _ | .ldAMemBc | .ldAMemDe | .ldHlMemNn _ | .ldAMemNn _ | .incSs _ | .decSs _ | .incMemHl | .decMemHl
  | .ldMemHlN _ | .incR _ | .decR _ | .ldRN _ _ | .rlca | .rrca | .rla | .rra | .daa | .cpl | .scf | .ccf | .halt
  | .ldMemHlR _ | .ldRMemHl _ | .ldRR _ _ | .addAMemHl | .addAR _ | .adcAMemHl | .adcAR _ | .subMemHl | .subR _
  | .sbcAMemHl | .sbcAR _ | .andMemHl | .andR _ | .xorMemHl | .xorR _ | .orMemHl | .orR _ | .cpMemHl | .cpR _
  | .retCc _ | .popQq _ | .ret | .exx | .jpHl | .ldSpHl | .jpCcNn _ _ | .jpNn _ | .outNA _ | .inAN _ | .exSpHl
  | .exDeHl | .di | .ei | .callCcNn _ _ | .pushQq _ | .callNn _ | .addAN _ | .adcAN _ | .subN _ | .sbcAN _ | .andN _
  | .xorN _ | .orN _ | .cpN _ | .rstP _ | .rlcMemHl | .rlcR _ | .rrcMemHl | .rrcR _ | .rlMemHl | .rlR _ | .rrMemHl
  | .rrR _ | .slaMemHl | .slaR _ | .sraMemHl | .sraR _ | .sllMemHl | .sllR _ | .srlMemHl | .srlR _ | .bitMemHl _
  | .bitR _ _ | .resMemHl _ | .resR _ _ | .setMemHl _ | .setR _ _ | .inC | .inRC _ | .outC0 | .outCR _ | .sbcHlSs _
  | .adcHlSs _ | .ldMemNnDd _ _ | .ldDdMemNn _ _ | .neg _ | .reti | .retn _ | .im0 _ _ | .im1 _ | .im2 _ | .ldIA
  | .ldRefreshA | .ldAI | .ldARefresh | .rrd | .rld | .ldi | .cpi | .ini | .outi | .ldd | .cpd | .ind | .outd | .ldir
  | .cpir | .inir | .otir | .lddr | .cpdr | .indr | .otdr | .nopEd _ | .redundantIxDd | .redundantIxFd
  | .redundantIxEd | .ldIxNn _ | .ldMemNnIx _ | .ldIxMemNn _ | .incIx | .decIx | .addIxPp _ | .incIxh | .decIxh
  | .ldIxhN _ | .incIxl | .decIxl | .ldIxlN _ | .incMemIx _ | .decMemIx _ | .ldMemIxN _ _ | .haltIx | .ldMemIxR _ _
  | .ldRMemIx _ _ | .ldIxhR _ | .ldIxlR _ | .ldRIxh _ | .ldRIxl _ | .addAMemIx _ | .addAIxh | .addAIxl | .adcAMemIx _
  | .adcAIxh | .adcAIxl | .subMemIx _ | .subIxh | .subIxl | .sbcAMemIx _ | .sbcAIxh | .sbcAIxl | .andMemIx _ | .andIxh
  | .andIxl | .xorMemIx _ | .xorIxh | .xorIxl | .orMemIx _ | .orIxh | .orIxl | .cpMemIx _ | .cpIxh | .cpIxl | .popIx
  | .exSpIx | .pushIx | .jpIx | .ldSpIx | .ixIgnored _ | .redundantIyDd | .redundantIyFd | .redundantIyEd | .ldIyNn _
  | .ldMemNnIy _ | .ldIyMemNn _ | .incIy | .decIy | .addIyPp _ | .incIyh | .decIyh | .ldIyhN _ | .incIyl | .decIyl
  | .ldIylN _ | .incMemIy _ | .decMemIy _ | .ldMemIyN _ _ | .haltIy | .ldMemIyR _ _ | .ldRMemIy _ _ | .ldIyhR _
  | .ldIylR _ | .ldRIyh _ | .ldRIyl _ | .addAMemIy _ | .addAIyh | .addAIyl | .adcAMemIy _ | .adcAIyh | .adcAIyl
  | .subMemIy _ | .subIyh | .subIyl | .sbcAMemIy _ | .sbcAIyh | .sbcAIyl | .andMemIy _ | .andIyh | .andIyl
  | .xorMemIy _ | .xorIyh | .xorIyl | .orMemIy _ | .orIyh | .orIyl | .cpMemIy _ | .cpIyh | .cpIyl | .popIy | .exSpIy
  | .pushIy | .jpIy | .ldSpIy | .iyIgnored _ | .bitMemIx _ _ _ | .rlcMemIx _ | .ldRRlcMemIx _ _ | .rrcMemIx _
  | .ldRRrcMemIx _ _ | .rlMemIx _ | .ldRRlMemIx _ _ | .rrMemIx _ | .ldRRrMemIx _ _ | .slaMemIx _ | .ldRSlaMemIx _ _
  | .sraMemIx _ | .ldRSraMemIx _ _ | .sllMemIx _ | .ldRSllMemIx _ _ | .srlMemIx _ | .ldRSrlMemIx _ _ | .resMemIx _ _
  | .ldRResMemIx _ _ _ | .setMemIx _ _ | .ldRSetMemIx _ _ _ | .bitMemIy _ _ _ | .rlcMemIy _ | .ldRRlcMemIy _ _
  | .rrcMemIy _ | .ldRRrcMemIy _ _ | .rlMemIy _ | .ldRRlMemIy _ _ | .rrMemIy _ | .ldRRrMemIy _ _ | .slaMemIy _
  | .ldRSlaMemIy _ _ | .sraMemIy _ | .ldRSraMemIy _ _ | .sllMemIy _ | .ldRSllMemIy _ _ | .srlMemIy _
  | .ldRSrlMemIy _ _ | .resMemIy _ _ | .ldRResMemIy _ _ _ | .setMemIy _ _ | .ldRSetMemIy _ _ _ => false

end Sys2Proof
end

