-- ==== Sys2Proof/Decode.lean ====
section
/-! DEFINITION. Decoding (30_encoding.md R90 to R114) and its inverse. `decode4` is total on any four bytes (R106);
`decode` reads a list of bytes and refuses a truncated one by name. The encoder follows the same tables. -/

namespace Sys2Proof

/-! ### Bytes and words (R9, R62, R63) -/

/-- The high byte of a word, `v[15:8]` (R7). -/
def hi (w : Word) : Byte := w.extractLsb' 8 8

/-- The low byte of a word, `v[7:0]` (R7). -/
def lo (w : Word) : Byte := w.extractLsb' 0 8

/-- `hi ++ lo` (R9). -/
def mkWord (h l : Byte) : Word := h ++ l

/-- A byte with bit `k` set to `v` and every other bit 0. -/
def bitAt (v : Bool) (k : Nat) : Byte := if v then 1 <<< k else 0

/-! ### The field codes, both ways (R92 to R98) -/

def Reg8.code : Reg8 → Byte
  | .b => 0 | .c => 1 | .d => 2 | .e => 3 | .h => 4 | .l => 5 | .a => 7

def Pair.code : Pair → Byte
  | .bc => 0 | .de => 1 | .hl => 2 | .sp => 3

def PairQ.code : PairQ → Byte
  | .bc => 0 | .de => 1 | .hl => 2 | .af => 3

def PairX.code : PairX → Byte
  | .bc => 0 | .de => 1 | .xy => 2 | .sp => 3

def RegX.code : RegX → Byte
  | .b => 0 | .c => 1 | .d => 2 | .e => 3 | .xh => 4 | .xl => 5 | .a => 7

def Cond.code : Cond → Byte
  | .nz => 0 | .z => 1 | .nc => 2 | .c => 3 | .po => 4 | .pe => 5 | .p => 6 | .m => 7

/-- R92; the tables take code 6, the memory operand, before they read this. -/
def reg8Of : Nat → Reg8
  | 0 => .b | 1 => .c | 2 => .d | 3 => .e | 4 => .h | 5 => .l | _ => .a

/-- R93. -/
def pairOf : Nat → Pair
  | 0 => .bc | 1 => .de | 2 => .hl | _ => .sp

/-- R94. -/
def pairQOf : Nat → PairQ
  | 0 => .bc | 1 => .de | 2 => .hl | _ => .af

/-- R93 under an index prefix. -/
def pairXOf : Nat → PairX
  | 0 => .bc | 1 => .de | 2 => .xy | _ => .sp

/-- R92 under an index prefix; code 6 is taken before. -/
def regXOf : Nat → RegX
  | 0 => .b | 1 => .c | 2 => .d | 3 => .e | 4 => .xh | 5 => .xl | _ => .a

/-- R95. -/
def condOf : Nat → Cond
  | 0 => .nz | 1 => .z | 2 => .nc | 3 => .c | 4 => .po | 5 => .pe | 6 => .p | _ => .m

/-- The constructor for `IX` or for `IY` (R101). -/
def Idx.pick {α : Type} (x : Idx) (forIx forIy : α) : α :=
  match x with
  | .ix => forIx
  | .iy => forIy

/-! ### Length -/

/-- What follows the opcode in the base table (R110): no operand, one byte, or a word. -/
def baseLength (op : Byte) : Nat :=
  let x := op.toNat / 64
  let y := op.toNat / 8 % 8
  let z := op.toNat % 8
  match x, z with
  | 0, 0 => if y < 2 then 1 else 2
  | 0, 1 => if y % 2 = 0 then 3 else 1
  | 0, 2 => if y < 4 then 1 else 3
  | 0, 6 => 2
  | 3, 2 => 3
  | 3, 3 => if y = 0 then 3 else if y = 2 ∨ y = 3 then 2 else 1
  | 3, 4 => 3
  | 3, 5 => if y = 1 then 3 else 1
  | 3, 6 => 2
  | _, _ => 1

/-! ### The tables -/

/-- The `alu` field (R96) with the operand `(HL)`. -/
def aluMemHlOf : Nat → Instr
  | 0 => .addAMemHl | 1 => .adcAMemHl | 2 => .subMemHl | 3 => .sbcAMemHl
  | 4 => .andMemHl | 5 => .xorMemHl | 6 => .orMemHl | _ => .cpMemHl

/-- The `alu` field (R96) with a register operand. -/
def aluROf (y : Nat) (rr : Reg8) : Instr :=
  match y with
  | 0 => .addAR rr | 1 => .adcAR rr | 2 => .subR rr | 3 => .sbcAR rr
  | 4 => .andR rr | 5 => .xorR rr | 6 => .orR rr | _ => .cpR rr

/-- The `alu` field (R96) with an immediate operand. -/
def aluNOf (y : Nat) (n : Byte) : Instr :=
  match y with
  | 0 => .addAN n | 1 => .adcAN n | 2 => .subN n | 3 => .sbcAN n
  | 4 => .andN n | 5 => .xorN n | 6 => .orN n | _ => .cpN n

/-- The base table R111: the instruction of opcode `op` with the following bytes `b1`, `b2`. -/
def decodeBase (op b1 b2 : Byte) : Instr :=
  let x := op.toNat / 64
  let y := op.toNat / 8 % 8
  let z := op.toNat % 8
  let p := y / 2
  let q := y % 2
  let nn := mkWord b2 b1
  match x, z with
  | 0, 0 =>
    match y with
    | 0 => .nop | 1 => .exAfAf | 2 => .djnz b1 | 3 => .jr b1 | _ => .jrCc (condOf (y - 4)) b1
  | 0, 1 => if q = 0 then .ldDdNn (pairOf p) nn else .addHlSs (pairOf p)
  | 0, 2 =>
    match y with
    | 0 => .ldMemBcA | 1 => .ldAMemBc | 2 => .ldMemDeA | 3 => .ldAMemDe
    | 4 => .ldMemNnHl nn | 5 => .ldHlMemNn nn | 6 => .ldMemNnA nn | _ => .ldAMemNn nn
  | 0, 3 => if q = 0 then .incSs (pairOf p) else .decSs (pairOf p)
  | 0, 4 => if y = 6 then .incMemHl else .incR (reg8Of y)
  | 0, 5 => if y = 6 then .decMemHl else .decR (reg8Of y)
  | 0, 6 => if y = 6 then .ldMemHlN b1 else .ldRN (reg8Of y) b1
  | 0, _ =>
    match y with
    | 0 => .rlca | 1 => .rrca | 2 => .rla | 3 => .rra | 4 => .daa | 5 => .cpl | 6 => .scf | _ => .ccf
  | 1, _ =>
    if y = 6 ∧ z = 6 then .halt
    else if z = 6 then .ldRMemHl (reg8Of y)
    else if y = 6 then .ldMemHlR (reg8Of z)
    else .ldRR (reg8Of y) (reg8Of z)
  | 2, _ => if z = 6 then aluMemHlOf y else aluROf y (reg8Of z)
  | _, 0 => .retCc (condOf y)
  | _, 1 =>
    if q = 0 then .popQq (pairQOf p)
    else match p with
      | 0 => .ret | 1 => .exx | 2 => .jpHl | _ => .ldSpHl
  | _, 2 => .jpCcNn (condOf y) nn
  | _, 3 =>
    match y with
    | 0 => .jpNn nn | 1 => .cbPrefix | 2 => .outNA b1 | 3 => .inAN b1
    | 4 => .exSpHl | 5 => .exDeHl | 6 => .di | _ => .ei
  | _, 4 => .callCcNn (condOf y) nn
  | _, 5 =>
    if q = 0 then .pushQq (pairQOf p)
    else match p with
      | 0 => .callNn nn | 1 => .ddPrefix | 2 => .edPrefix | _ => .fdPrefix
  | _, 6 => aluNOf y b1
  | _, _ => .rstP (BitVec.ofNat 3 y)

/-- The CB table R99, R112. -/
def decodeCb (op : Byte) : Instr :=
  let x := op.toNat / 64
  let y := op.toNat / 8 % 8
  let z := op.toNat % 8
  let b := BitVec.ofNat 3 y
  let rr := reg8Of z
  match x with
  | 0 =>
    if z = 6 then
      match y with
      | 0 => .rlcMemHl | 1 => .rrcMemHl | 2 => .rlMemHl | 3 => .rrMemHl
      | 4 => .slaMemHl | 5 => .sraMemHl | 6 => .sllMemHl | _ => .srlMemHl
    else
      match y with
      | 0 => .rlcR rr | 1 => .rrcR rr | 2 => .rlR rr | 3 => .rrR rr
      | 4 => .slaR rr | 5 => .sraR rr | 6 => .sllR rr | _ => .srlR rr
  | 1 => if z = 6 then .bitMemHl b else .bitR b rr
  | 2 => if z = 6 then .resMemHl b else .resR b rr
  | _ => if z = 6 then .setMemHl b else .setR b rr

/-- The block instructions `bli[y-4][z]` of R100. -/
def blockOf (y z : Nat) : Instr :=
  match y, z with
  | 4, 0 => .ldi | 4, 1 => .cpi | 4, 2 => .ini | 4, _ => .outi
  | 5, 0 => .ldd | 5, 1 => .cpd | 5, 2 => .ind | 5, _ => .outd
  | 6, 0 => .ldir | 6, 1 => .cpir | 6, 2 => .inir | 6, _ => .otir
  | _, 0 => .lddr | _, 1 => .cpdr | _, 2 => .indr | _, _ => .otdr

/-- The ED table R100, R113 with R98 and R105: opcode `op` with the following bytes `b1`, `b2`. -/
def decodeEd (op b1 b2 : Byte) : Instr :=
  let x := op.toNat / 64
  let y := op.toNat / 8 % 8
  let z := op.toNat % 8
  let p := y / 2
  let q := y % 2
  let nn := mkWord b2 b1
  match x, z with
  | 1, 0 => if y = 6 then .inC else .inRC (reg8Of y)
  | 1, 1 => if y = 6 then .outC0 else .outCR (reg8Of y)
  | 1, 2 => if q = 0 then .sbcHlSs (pairOf p) else .adcHlSs (pairOf p)
  | 1, 3 => if q = 0 then .ldMemNnDd (pairOf p) nn else .ldDdMemNn (pairOf p) nn
  | 1, 4 => .neg (BitVec.ofNat 3 y)
  | 1, 5 => if y = 1 then .reti else .retn (BitVec.ofNat 3 y)
  | 1, 6 =>
    if y = 2 ∨ y = 6 then .im1 (y = 6)
    else if y = 3 ∨ y = 7 then .im2 (y = 7)
    else .im0 (4 ≤ y) (q = 1)
  | 1, _ =>
    match y with
    | 0 => .ldIA | 1 => .ldRefreshA | 2 => .ldAI | 3 => .ldARefresh | 4 => .rrd | 5 => .rld | _ => .nopEd op
  | 2, _ => if 4 ≤ y ∧ z < 4 then blockOf y z else .nopEd op
  | _, _ => .nopEd op

/-- `ED` instructions with a word operand (R110). -/
def edLength (op : Byte) : Nat :=
  if op.toNat / 64 = 1 ∧ op.toNat % 8 = 3 then 4 else 2

/-- The cells of the grid R114 that an index prefix changes: the instruction of opcode `op` with the following bytes
`b1`, `b2`, and its length with the prefix; `none` for a cell marked `·`. -/
def decodeXy (k : Idx) (op b1 b2 : Byte) : Option (Instr × Nat) :=
  let x := op.toNat / 64
  let y := op.toNat / 8 % 8
  let z := op.toNat % 8
  let p := y / 2
  let nn := mkWord b2 b1
  match x, z with
  | 0, 1 =>
    if y % 2 = 1 then some (k.pick (.addIxPp (pairXOf p)) (.addIyPp (pairXOf p)), 2)
    else if y = 4 then some (k.pick (.ldIxNn nn) (.ldIyNn nn), 4) else none
  | 0, 2 =>
    if y = 4 then some (k.pick (.ldMemNnIx nn) (.ldMemNnIy nn), 4)
    else if y = 5 then some (k.pick (.ldIxMemNn nn) (.ldIyMemNn nn), 4) else none
  | 0, 3 =>
    if y = 4 then some (k.pick .incIx .incIy, 2) else if y = 5 then some (k.pick .decIx .decIy, 2) else none
  | 0, 4 =>
    match y with
    | 4 => some (k.pick .incIxh .incIyh, 2)
    | 5 => some (k.pick .incIxl .incIyl, 2)
    | 6 => some (k.pick (.incMemIx b1) (.incMemIy b1), 3)
    | _ => none
  | 0, 5 =>
    match y with
    | 4 => some (k.pick .decIxh .decIyh, 2)
    | 5 => some (k.pick .decIxl .decIyl, 2)
    | 6 => some (k.pick (.decMemIx b1) (.decMemIy b1), 3)
    | _ => none
  | 0, 6 =>
    match y with
    | 4 => some (k.pick (.ldIxhN b1) (.ldIyhN b1), 3)
    | 5 => some (k.pick (.ldIxlN b1) (.ldIylN b1), 3)
    | 6 => some (k.pick (.ldMemIxN b1 b2) (.ldMemIyN b1 b2), 4)
    | _ => none
  | 1, _ =>
    if y = 6 ∧ z = 6 then some (k.pick .haltIx .haltIy, 2)
    else if z = 6 then some (k.pick (.ldRMemIx (reg8Of y) b1) (.ldRMemIy (reg8Of y) b1), 3)
    else if y = 6 then some (k.pick (.ldMemIxR b1 (reg8Of z)) (.ldMemIyR b1 (reg8Of z)), 3)
    else if y = 4 then some (k.pick (.ldIxhR (regXOf z)) (.ldIyhR (regXOf z)), 2)
    else if y = 5 then some (k.pick (.ldIxlR (regXOf z)) (.ldIylR (regXOf z)), 2)
    else if z = 4 then some (k.pick (.ldRIxh (reg8Of y)) (.ldRIyh (reg8Of y)), 2)
    else if z = 5 then some (k.pick (.ldRIxl (reg8Of y)) (.ldRIyl (reg8Of y)), 2)
    else none
  | 2, 4 =>
    some (match y with
      | 0 => k.pick .addAIxh .addAIyh | 1 => k.pick .adcAIxh .adcAIyh
      | 2 => k.pick .subIxh .subIyh | 3 => k.pick .sbcAIxh .sbcAIyh
      | 4 => k.pick .andIxh .andIyh | 5 => k.pick .xorIxh .xorIyh
      | 6 => k.pick .orIxh .orIyh | _ => k.pick .cpIxh .cpIyh, 2)
  | 2, 5 =>
    some (match y with
      | 0 => k.pick .addAIxl .addAIyl | 1 => k.pick .adcAIxl .adcAIyl
      | 2 => k.pick .subIxl .subIyl | 3 => k.pick .sbcAIxl .sbcAIyl
      | 4 => k.pick .andIxl .andIyl | 5 => k.pick .xorIxl .xorIyl
      | 6 => k.pick .orIxl .orIyl | _ => k.pick .cpIxl .cpIyl, 2)
  | 2, 6 =>
    some (match y with
      | 0 => k.pick (.addAMemIx b1) (.addAMemIy b1) | 1 => k.pick (.adcAMemIx b1) (.adcAMemIy b1)
      | 2 => k.pick (.subMemIx b1) (.subMemIy b1) | 3 => k.pick (.sbcAMemIx b1) (.sbcAMemIy b1)
      | 4 => k.pick (.andMemIx b1) (.andMemIy b1) | 5 => k.pick (.xorMemIx b1) (.xorMemIy b1)
      | 6 => k.pick (.orMemIx b1) (.orMemIy b1) | _ => k.pick (.cpMemIx b1) (.cpMemIy b1), 3)
  | 3, 1 =>
    match y with
    | 4 => some (k.pick .popIx .popIy, 2)
    | 5 => some (k.pick .jpIx .jpIy, 2)
    | 7 => some (k.pick .ldSpIx .ldSpIy, 2)
    | _ => none
  | 3, 3 => if y = 4 then some (k.pick .exSpIx .exSpIy, 2) else none
  | 3, 5 => if y = 4 then some (k.pick .pushIx .pushIy, 2) else none
  | _, _ => none

/-- The indexed bit table R104: displacement `d`, final opcode byte `op`. -/
def decodeIdxCb (k : Idx) (d op : Byte) : Instr :=
  let x := op.toNat / 64
  let y := op.toNat / 8 % 8
  let z := op.toNat % 8
  let b := BitVec.ofNat 3 y
  let rr := reg8Of z
  match x with
  | 0 =>
    if z = 6 then
      match y with
      | 0 => k.pick (.rlcMemIx d) (.rlcMemIy d) | 1 => k.pick (.rrcMemIx d) (.rrcMemIy d)
      | 2 => k.pick (.rlMemIx d) (.rlMemIy d) | 3 => k.pick (.rrMemIx d) (.rrMemIy d)
      | 4 => k.pick (.slaMemIx d) (.slaMemIy d) | 5 => k.pick (.sraMemIx d) (.sraMemIy d)
      | 6 => k.pick (.sllMemIx d) (.sllMemIy d) | _ => k.pick (.srlMemIx d) (.srlMemIy d)
    else
      match y with
      | 0 => k.pick (.ldRRlcMemIx rr d) (.ldRRlcMemIy rr d) | 1 => k.pick (.ldRRrcMemIx rr d) (.ldRRrcMemIy rr d)
      | 2 => k.pick (.ldRRlMemIx rr d) (.ldRRlMemIy rr d) | 3 => k.pick (.ldRRrMemIx rr d) (.ldRRrMemIy rr d)
      | 4 => k.pick (.ldRSlaMemIx rr d) (.ldRSlaMemIy rr d) | 5 => k.pick (.ldRSraMemIx rr d) (.ldRSraMemIy rr d)
      | 6 => k.pick (.ldRSllMemIx rr d) (.ldRSllMemIy rr d) | _ => k.pick (.ldRSrlMemIx rr d) (.ldRSrlMemIy rr d)
  | 1 => k.pick (.bitMemIx b (BitVec.ofNat 3 z) d) (.bitMemIy b (BitVec.ofNat 3 z) d)
  | 2 =>
    if z = 6 then k.pick (.resMemIx b d) (.resMemIy b d)
    else k.pick (.ldRResMemIx rr b d) (.ldRResMemIy rr b d)
  | _ =>
    if z = 6 then k.pick (.setMemIx b d) (.setMemIy b d)
    else k.pick (.ldRSetMemIx rr b d) (.ldRSetMemIy rr b d)

/-- R101, R387, R389: what follows an index prefix, three bytes, and the length with the prefix. A following DD, FD or
ED makes the prefix a step of its own, of one byte. -/
def decodeIndexed (k : Idx) (b1 b2 b3 : Byte) : Instr × Nat :=
  if b1 = 0xDD then (k.pick .redundantIxDd .redundantIyDd, 1)
  else if b1 = 0xFD then (k.pick .redundantIxFd .redundantIyFd, 1)
  else if b1 = 0xED then (k.pick .redundantIxEd .redundantIyEd, 1)
  else if b1 = 0xCB then (decodeIdxCb k b2 b3, 4)
  else match decodeXy k b1 b2 b3 with
    | some r => r
    | none => let base := decodeBase b1 b2 b3; (k.pick (.ixIgnored base) (.iyIgnored base), 1 + baseLength b1)

/-- The decode procedure R103 on four bytes: the instruction and how many of the bytes it consumes. -/
def decode4 (b0 b1 b2 b3 : Byte) : Instr × Nat :=
  if b0 = 0xCB then (decodeCb b1, 2)
  else if b0 = 0xED then (decodeEd b1 b2 b3, edLength b1)
  else if b0 = 0xDD then decodeIndexed .ix b1 b2 b3
  else if b0 = 0xFD then decodeIndexed .iy b1 b2 b3
  else (decodeBase b0 b1 b2, baseLength b0)

/-- Why a list of bytes is no instruction: it ends before one does. No sequence of bytes that is long enough is refused
(R106). -/
inductive DecodeError where
  /-- no byte at all -/
  | empty
  /-- the list ends inside the instruction it begins -/
  | truncated
deriving DecidableEq, Repr

/-- Decode the instruction a list of bytes begins with: the instruction and the bytes it consumes. A list that ends with
a prefix byte and nothing after it is that prefix's own row of the table (DESIGN CHOICE, log 11). -/
def decode (bytes : List Byte) : Except DecodeError (Instr × Nat) :=
  match bytes with
  | [] => .error .empty
  | b0 :: rest =>
    if rest.isEmpty && b0 = 0xCB then .ok (.cbPrefix, 1)
    else if rest.isEmpty && b0 = 0xDD then .ok (.ddPrefix, 1)
    else if rest.isEmpty && b0 = 0xED then .ok (.edPrefix, 1)
    else if rest.isEmpty && b0 = 0xFD then .ok (.fdPrefix, 1)
    else if b0 = 0xDD && rest = [0xCB] then .ok (.ixCbPrefix, 2)
    else if b0 = 0xFD && rest = [0xCB] then .ok (.iyCbPrefix, 2)
    else
      let r := decode4 b0 (rest.getD 0 0) (rest.getD 1 0) (rest.getD 2 0)
      if r.2 ≤ bytes.length then .ok r else .error .truncated

/-! ### The encoder -/

/-- The bytes of an instruction (R90, opcode_table.json). A redundant prefix is one byte; the second one listed is the
byte that makes it redundant (R387). -/
def Instr.encode : Instr → List Byte
  | .nop => [0x00]
  | .exAfAf => [0x08]
  | .djnz e => [0x10, e]
  | .jr e => [0x18, e]
  | .jrCc cc e => [0x20 ||| (cc.code <<< 3), e]
  | .ldDdNn dd nn => [0x01 ||| (dd.code <<< 4), lo nn, hi nn]
  | .addHlSs ss => [0x09 ||| (ss.code <<< 4)]
  | .ldMemBcA => [0x02]
  | .ldMemDeA => [0x12]
  | .ldMemNnHl nn => [0x22, lo nn, hi nn]
  | .ldMemNnA nn => [0x32, lo nn, hi nn]
  | .ldAMemBc => [0x0A]
  | .ldAMemDe => [0x1A]
  | .ldHlMemNn nn => [0x2A, lo nn, hi nn]
  | .ldAMemNn nn => [0x3A, lo nn, hi nn]
  | .incSs ss => [0x03 ||| (ss.code <<< 4)]
  | .decSs ss => [0x0B ||| (ss.code <<< 4)]
  | .incMemHl => [0x34]
  | .decMemHl => [0x35]
  | .ldMemHlN n => [0x36, n]
  | .incR rr => [0x04 ||| (rr.code <<< 3)]
  | .decR rr => [0x05 ||| (rr.code <<< 3)]
  | .ldRN rr n => [0x06 ||| (rr.code <<< 3), n]
  | .rlca => [0x07]
  | .rrca => [0x0F]
  | .rla => [0x17]
  | .rra => [0x1F]
  | .daa => [0x27]
  | .cpl => [0x2F]
  | .scf => [0x37]
  | .ccf => [0x3F]
  | .halt => [0x76]
  | .ldMemHlR rr => [0x70 ||| rr.code]
  | .ldRMemHl rr => [0x46 ||| (rr.code <<< 3)]
  | .ldRR rd rs => [0x40 ||| (rd.code <<< 3) ||| rs.code]
  | .addAMemHl => [0x86]
  | .addAR rr => [0x80 ||| rr.code]
  | .adcAMemHl => [0x8E]
  | .adcAR rr => [0x88 ||| rr.code]
  | .subMemHl => [0x96]
  | .subR rr => [0x90 ||| rr.code]
  | .sbcAMemHl => [0x9E]
  | .sbcAR rr => [0x98 ||| rr.code]
  | .andMemHl => [0xA6]
  | .andR rr => [0xA0 ||| rr.code]
  | .xorMemHl => [0xAE]
  | .xorR rr => [0xA8 ||| rr.code]
  | .orMemHl => [0xB6]
  | .orR rr => [0xB0 ||| rr.code]
  | .cpMemHl => [0xBE]
  | .cpR rr => [0xB8 ||| rr.code]
  | .retCc cc => [0xC0 ||| (cc.code <<< 3)]
  | .popQq qq => [0xC1 ||| (qq.code <<< 4)]
  | .ret => [0xC9]
  | .exx => [0xD9]
  | .jpHl => [0xE9]
  | .ldSpHl => [0xF9]
  | .jpCcNn cc nn => [0xC2 ||| (cc.code <<< 3), lo nn, hi nn]
  | .jpNn nn => [0xC3, lo nn, hi nn]
  | .cbPrefix => [0xCB]
  | .outNA n => [0xD3, n]
  | .inAN n => [0xDB, n]
  | .exSpHl => [0xE3]
  | .exDeHl => [0xEB]
  | .di => [0xF3]
  | .ei => [0xFB]
  | .callCcNn cc nn => [0xC4 ||| (cc.code <<< 3), lo nn, hi nn]
  | .pushQq qq => [0xC5 ||| (qq.code <<< 4)]
  | .callNn nn => [0xCD, lo nn, hi nn]
  | .ddPrefix => [0xDD]
  | .edPrefix => [0xED]
  | .fdPrefix => [0xFD]
  | .addAN n => [0xC6, n]
  | .adcAN n => [0xCE, n]
  | .subN n => [0xD6, n]
  | .sbcAN n => [0xDE, n]
  | .andN n => [0xE6, n]
  | .xorN n => [0xEE, n]
  | .orN n => [0xF6, n]
  | .cpN n => [0xFE, n]
  | .rstP t => [0xC7 ||| (t.setWidth 8 <<< 3)]
  | .rlcMemHl => [0xCB, 0x06]
  | .rlcR rr => [0xCB, 0x00 ||| rr.code]
  | .rrcMemHl => [0xCB, 0x0E]
  | .rrcR rr => [0xCB, 0x08 ||| rr.code]
  | .rlMemHl => [0xCB, 0x16]
  | .rlR rr => [0xCB, 0x10 ||| rr.code]
  | .rrMemHl => [0xCB, 0x1E]
  | .rrR rr => [0xCB, 0x18 ||| rr.code]
  | .slaMemHl => [0xCB, 0x26]
  | .slaR rr => [0xCB, 0x20 ||| rr.code]
  | .sraMemHl => [0xCB, 0x2E]
  | .sraR rr => [0xCB, 0x28 ||| rr.code]
  | .sllMemHl => [0xCB, 0x36]
  | .sllR rr => [0xCB, 0x30 ||| rr.code]
  | .srlMemHl => [0xCB, 0x3E]
  | .srlR rr => [0xCB, 0x38 ||| rr.code]
  | .bitMemHl b => [0xCB, 0x46 ||| (b.setWidth 8 <<< 3)]
  | .bitR b rr => [0xCB, 0x40 ||| (b.setWidth 8 <<< 3) ||| rr.code]
  | .resMemHl b => [0xCB, 0x86 ||| (b.setWidth 8 <<< 3)]
  | .resR b rr => [0xCB, 0x80 ||| (b.setWidth 8 <<< 3) ||| rr.code]
  | .setMemHl b => [0xCB, 0xC6 ||| (b.setWidth 8 <<< 3)]
  | .setR b rr => [0xCB, 0xC0 ||| (b.setWidth 8 <<< 3) ||| rr.code]
  | .inC => [0xED, 0x70]
  | .inRC rr => [0xED, 0x40 ||| (rr.code <<< 3)]
  | .outC0 => [0xED, 0x71]
  | .outCR rr => [0xED, 0x41 ||| (rr.code <<< 3)]
  | .sbcHlSs ss => [0xED, 0x42 ||| (ss.code <<< 4)]
  | .adcHlSs ss => [0xED, 0x4A ||| (ss.code <<< 4)]
  | .ldMemNnDd dd nn => [0xED, 0x43 ||| (dd.code <<< 4), lo nn, hi nn]
  | .ldDdMemNn dd nn => [0xED, 0x4B ||| (dd.code <<< 4), lo nn, hi nn]
  | .neg copy => [0xED, 0x44 ||| (copy.setWidth 8 <<< 3)]
  | .reti => [0xED, 0x4D]
  | .retn copy => [0xED, 0x45 ||| (copy.setWidth 8 <<< 3)]
  | .im0 b5 b3 => [0xED, 0x46 ||| bitAt b5 5 ||| bitAt b3 3]
  | .im1 b5 => [0xED, 0x56 ||| bitAt b5 5]
  | .im2 b5 => [0xED, 0x5E ||| bitAt b5 5]
  | .ldIA => [0xED, 0x47]
  | .ldRefreshA => [0xED, 0x4F]
  | .ldAI => [0xED, 0x57]
  | .ldARefresh => [0xED, 0x5F]
  | .rrd => [0xED, 0x67]
  | .rld => [0xED, 0x6F]
  | .ldi => [0xED, 0xA0]
  | .cpi => [0xED, 0xA1]
  | .ini => [0xED, 0xA2]
  | .outi => [0xED, 0xA3]
  | .ldd => [0xED, 0xA8]
  | .cpd => [0xED, 0xA9]
  | .ind => [0xED, 0xAA]
  | .outd => [0xED, 0xAB]
  | .ldir => [0xED, 0xB0]
  | .cpir => [0xED, 0xB1]
  | .inir => [0xED, 0xB2]
  | .otir => [0xED, 0xB3]
  | .lddr => [0xED, 0xB8]
  | .cpdr => [0xED, 0xB9]
  | .indr => [0xED, 0xBA]
  | .otdr => [0xED, 0xBB]
  | .nopEd op => [0xED, op]
  | .ixCbPrefix => [0xDD, 0xCB]
  | .redundantIxDd => [0xDD, 0xDD]
  | .redundantIxFd => [0xDD, 0xFD]
  | .redundantIxEd => [0xDD, 0xED]
  | .ldIxNn nn => [0xDD, 0x21, lo nn, hi nn]
  | .ldMemNnIx nn => [0xDD, 0x22, lo nn, hi nn]
  | .ldIxMemNn nn => [0xDD, 0x2A, lo nn, hi nn]
  | .incIx => [0xDD, 0x23]
  | .decIx => [0xDD, 0x2B]
  | .addIxPp pp => [0xDD, 0x09 ||| (pp.code <<< 4)]
  | .incIxh => [0xDD, 0x24]
  | .decIxh => [0xDD, 0x25]
  | .ldIxhN n => [0xDD, 0x26, n]
  | .incIxl => [0xDD, 0x2C]
  | .decIxl => [0xDD, 0x2D]
  | .ldIxlN n => [0xDD, 0x2E, n]
  | .incMemIx d => [0xDD, 0x34, d]
  | .decMemIx d => [0xDD, 0x35, d]
  | .ldMemIxN d n => [0xDD, 0x36, d, n]
  | .haltIx => [0xDD, 0x76]
  | .ldMemIxR d rr => [0xDD, 0x70 ||| rr.code, d]
  | .ldRMemIx rr d => [0xDD, 0x46 ||| (rr.code <<< 3), d]
  | .ldIxhR rx => [0xDD, 0x60 ||| rx.code]
  | .ldIxlR rx => [0xDD, 0x68 ||| rx.code]
  | .ldRIxh rr => [0xDD, 0x44 ||| (rr.code <<< 3)]
  | .ldRIxl rr => [0xDD, 0x45 ||| (rr.code <<< 3)]
  | .addAMemIx d => [0xDD, 0x86, d]
  | .addAIxh => [0xDD, 0x84]
  | .addAIxl => [0xDD, 0x85]
  | .adcAMemIx d => [0xDD, 0x8E, d]
  | .adcAIxh => [0xDD, 0x8C]
  | .adcAIxl => [0xDD, 0x8D]
  | .subMemIx d => [0xDD, 0x96, d]
  | .subIxh => [0xDD, 0x94]
  | .subIxl => [0xDD, 0x95]
  | .sbcAMemIx d => [0xDD, 0x9E, d]
  | .sbcAIxh => [0xDD, 0x9C]
  | .sbcAIxl => [0xDD, 0x9D]
  | .andMemIx d => [0xDD, 0xA6, d]
  | .andIxh => [0xDD, 0xA4]
  | .andIxl => [0xDD, 0xA5]
  | .xorMemIx d => [0xDD, 0xAE, d]
  | .xorIxh => [0xDD, 0xAC]
  | .xorIxl => [0xDD, 0xAD]
  | .orMemIx d => [0xDD, 0xB6, d]
  | .orIxh => [0xDD, 0xB4]
  | .orIxl => [0xDD, 0xB5]
  | .cpMemIx d => [0xDD, 0xBE, d]
  | .cpIxh => [0xDD, 0xBC]
  | .cpIxl => [0xDD, 0xBD]
  | .popIx => [0xDD, 0xE1]
  | .exSpIx => [0xDD, 0xE3]
  | .pushIx => [0xDD, 0xE5]
  | .jpIx => [0xDD, 0xE9]
  | .ldSpIx => [0xDD, 0xF9]
  | .ixIgnored base => 0xDD :: base.encode
  | .iyCbPrefix => [0xFD, 0xCB]
  | .redundantIyDd => [0xFD, 0xDD]
  | .redundantIyFd => [0xFD, 0xFD]
  | .redundantIyEd => [0xFD, 0xED]
  | .ldIyNn nn => [0xFD, 0x21, lo nn, hi nn]
  | .ldMemNnIy nn => [0xFD, 0x22, lo nn, hi nn]
  | .ldIyMemNn nn => [0xFD, 0x2A, lo nn, hi nn]
  | .incIy => [0xFD, 0x23]
  | .decIy => [0xFD, 0x2B]
  | .addIyPp pp => [0xFD, 0x09 ||| (pp.code <<< 4)]
  | .incIyh => [0xFD, 0x24]
  | .decIyh => [0xFD, 0x25]
  | .ldIyhN n => [0xFD, 0x26, n]
  | .incIyl => [0xFD, 0x2C]
  | .decIyl => [0xFD, 0x2D]
  | .ldIylN n => [0xFD, 0x2E, n]
  | .incMemIy d => [0xFD, 0x34, d]
  | .decMemIy d => [0xFD, 0x35, d]
  | .ldMemIyN d n => [0xFD, 0x36, d, n]
  | .haltIy => [0xFD, 0x76]
  | .ldMemIyR d rr => [0xFD, 0x70 ||| rr.code, d]
  | .ldRMemIy rr d => [0xFD, 0x46 ||| (rr.code <<< 3), d]
  | .ldIyhR rx => [0xFD, 0x60 ||| rx.code]
  | .ldIylR rx => [0xFD, 0x68 ||| rx.code]
  | .ldRIyh rr => [0xFD, 0x44 ||| (rr.code <<< 3)]
  | .ldRIyl rr => [0xFD, 0x45 ||| (rr.code <<< 3)]
  | .addAMemIy d => [0xFD, 0x86, d]
  | .addAIyh => [0xFD, 0x84]
  | .addAIyl => [0xFD, 0x85]
  | .adcAMemIy d => [0xFD, 0x8E, d]
  | .adcAIyh => [0xFD, 0x8C]
  | .adcAIyl => [0xFD, 0x8D]
  | .subMemIy d => [0xFD, 0x96, d]
  | .subIyh => [0xFD, 0x94]
  | .subIyl => [0xFD, 0x95]
  | .sbcAMemIy d => [0xFD, 0x9E, d]
  | .sbcAIyh => [0xFD, 0x9C]
  | .sbcAIyl => [0xFD, 0x9D]
  | .andMemIy d => [0xFD, 0xA6, d]
  | .andIyh => [0xFD, 0xA4]
  | .andIyl => [0xFD, 0xA5]
  | .xorMemIy d => [0xFD, 0xAE, d]
  | .xorIyh => [0xFD, 0xAC]
  | .xorIyl => [0xFD, 0xAD]
  | .orMemIy d => [0xFD, 0xB6, d]
  | .orIyh => [0xFD, 0xB4]
  | .orIyl => [0xFD, 0xB5]
  | .cpMemIy d => [0xFD, 0xBE, d]
  | .cpIyh => [0xFD, 0xBC]
  | .cpIyl => [0xFD, 0xBD]
  | .popIy => [0xFD, 0xE1]
  | .exSpIy => [0xFD, 0xE3]
  | .pushIy => [0xFD, 0xE5]
  | .jpIy => [0xFD, 0xE9]
  | .ldSpIy => [0xFD, 0xF9]
  | .iyIgnored base => 0xFD :: base.encode
  | .bitMemIx b z d => [0xDD, 0xCB, d, 0x40 ||| (b.setWidth 8 <<< 3) ||| z.setWidth 8]
  | .rlcMemIx d => [0xDD, 0xCB, d, 0x06]
  | .ldRRlcMemIx rr d => [0xDD, 0xCB, d, 0x00 ||| rr.code]
  | .rrcMemIx d => [0xDD, 0xCB, d, 0x0E]
  | .ldRRrcMemIx rr d => [0xDD, 0xCB, d, 0x08 ||| rr.code]
  | .rlMemIx d => [0xDD, 0xCB, d, 0x16]
  | .ldRRlMemIx rr d => [0xDD, 0xCB, d, 0x10 ||| rr.code]
  | .rrMemIx d => [0xDD, 0xCB, d, 0x1E]
  | .ldRRrMemIx rr d => [0xDD, 0xCB, d, 0x18 ||| rr.code]
  | .slaMemIx d => [0xDD, 0xCB, d, 0x26]
  | .ldRSlaMemIx rr d => [0xDD, 0xCB, d, 0x20 ||| rr.code]
  | .sraMemIx d => [0xDD, 0xCB, d, 0x2E]
  | .ldRSraMemIx rr d => [0xDD, 0xCB, d, 0x28 ||| rr.code]
  | .sllMemIx d => [0xDD, 0xCB, d, 0x36]
  | .ldRSllMemIx rr d => [0xDD, 0xCB, d, 0x30 ||| rr.code]
  | .srlMemIx d => [0xDD, 0xCB, d, 0x3E]
  | .ldRSrlMemIx rr d => [0xDD, 0xCB, d, 0x38 ||| rr.code]
  | .resMemIx b d => [0xDD, 0xCB, d, 0x86 ||| (b.setWidth 8 <<< 3)]
  | .ldRResMemIx rr b d => [0xDD, 0xCB, d, 0x80 ||| (b.setWidth 8 <<< 3) ||| rr.code]
  | .setMemIx b d => [0xDD, 0xCB, d, 0xC6 ||| (b.setWidth 8 <<< 3)]
  | .ldRSetMemIx rr b d => [0xDD, 0xCB, d, 0xC0 ||| (b.setWidth 8 <<< 3) ||| rr.code]
  | .bitMemIy b z d => [0xFD, 0xCB, d, 0x40 ||| (b.setWidth 8 <<< 3) ||| z.setWidth 8]
  | .rlcMemIy d => [0xFD, 0xCB, d, 0x06]
  | .ldRRlcMemIy rr d => [0xFD, 0xCB, d, 0x00 ||| rr.code]
  | .rrcMemIy d => [0xFD, 0xCB, d, 0x0E]
  | .ldRRrcMemIy rr d => [0xFD, 0xCB, d, 0x08 ||| rr.code]
  | .rlMemIy d => [0xFD, 0xCB, d, 0x16]
  | .ldRRlMemIy rr d => [0xFD, 0xCB, d, 0x10 ||| rr.code]
  | .rrMemIy d => [0xFD, 0xCB, d, 0x1E]
  | .ldRRrMemIy rr d => [0xFD, 0xCB, d, 0x18 ||| rr.code]
  | .slaMemIy d => [0xFD, 0xCB, d, 0x26]
  | .ldRSlaMemIy rr d => [0xFD, 0xCB, d, 0x20 ||| rr.code]
  | .sraMemIy d => [0xFD, 0xCB, d, 0x2E]
  | .ldRSraMemIy rr d => [0xFD, 0xCB, d, 0x28 ||| rr.code]
  | .sllMemIy d => [0xFD, 0xCB, d, 0x36]
  | .ldRSllMemIy rr d => [0xFD, 0xCB, d, 0x30 ||| rr.code]
  | .srlMemIy d => [0xFD, 0xCB, d, 0x3E]
  | .ldRSrlMemIy rr d => [0xFD, 0xCB, d, 0x38 ||| rr.code]
  | .resMemIy b d => [0xFD, 0xCB, d, 0x86 ||| (b.setWidth 8 <<< 3)]
  | .ldRResMemIy rr b d => [0xFD, 0xCB, d, 0x80 ||| (b.setWidth 8 <<< 3) ||| rr.code]
  | .setMemIy b d => [0xFD, 0xCB, d, 0xC6 ||| (b.setWidth 8 <<< 3)]
  | .ldRSetMemIy rr b d => [0xFD, 0xCB, d, 0xC0 ||| (b.setWidth 8 <<< 3) ||| rr.code]

/-- How many bytes an instruction consumes (R110): all it is encoded in, but one for a redundant prefix (R387). -/
def Instr.size (j : Instr) : Nat :=
  match j with
  | .redundantIxDd | .redundantIxFd | .redundantIxEd | .redundantIyDd | .redundantIyFd | .redundantIyEd => 1
  | _ => j.encode.length

/-! ### The table's own numbering -/

/-- The `count` bytes of `w`, most significant first: the first byte of a row of spec/opcode_table.json is the most
significant byte of its match (DESIGN CHOICE, log 13). -/
def bytesOf : Nat → Nat → List Byte
  | 0, _ => []
  | count + 1, w => BitVec.ofNat 8 (w / 256 ^ count) :: bytesOf count w

/-- The bytes of an instruction whose table bits are `w`, in the order they stand in memory, four in all. The 24-bit
rows (IXCB, IYCB) give no bits to the displacement, which lies before the final opcode byte: it is 0 (log 13). -/
def tableBytes (nbits w : Nat) : List Byte :=
  match bytesOf ((nbits + 7) / 8) w with
  | [b0, b1, b2] => if (b0 = 0xDD ∨ b0 = 0xFD) ∧ b1 = 0xCB then [b0, b1, 0, b2] else [b0, b1, b2, 0]
  | [] => [0, 0, 0, 0]
  | [b0] => [b0, 0, 0, 0]
  | [b0, b1] => [b0, b1, 0, 0]
  | bs => bs

/-- What the decoder reads from an instruction whose bits are `w`, numbered as spec/opcode_table.json numbers them. A
row of the table that is a prefix alone is read as such; any other word is followed by operand bytes of 0. -/
def decodeTableWord (nbits w : Nat) : Option Instr :=
  match decode (bytesOf ((nbits + 7) / 8) w) with
  | .ok r => if r.1.isPrefixRow then some r.1 else (decode (tableBytes nbits w)).toOption.map Prod.fst
  | .error _ => (decode (tableBytes nbits w)).toOption.map Prod.fst

end Sys2Proof
end

