-- ==== Sys2Proof/Machine/State.lean ====
section
/-! DEFINITION. The state of the machine (10_state.md R20 to R46), the ways a step can stop, and the state after reset. -/

namespace Sys2Proof.Machine

/-- `IM` (R39). -/
inductive IntMode where
  | im0 | im1 | im2
deriving DecidableEq, Repr

/-- `PrefixMode` (R42): `Extended` after 0xED, `Bit` after 0xCB. -/
inductive PrefixMode where
  | none | extended | bit
deriving DecidableEq, Repr

/-- `IndexMode` (R42): `IX` after 0xDD, `IY` after 0xFD. -/
inductive IndexMode where
  | none | ix | iy
deriving DecidableEq, Repr

/-- The 64 KB memory of R45 as (address, byte) pairs: addresses strictly rising, no byte equal to what an unlisted
address reads as (`Memory.wf`). -/
abbrev Memory := List Host.Cell

/-- The whole state. Plain data; every field but `cfg` is state the spec names. -/
@[ext]
structure State where
  /-- `A`, the accumulator (R20) -/
  a : Byte
  /-- `F`, the flags (R30) -/
  f : Byte
  b : Byte
  c : Byte
  d : Byte
  e : Byte
  h : Byte
  l : Byte
  /-- `AF'` (R22) -/
  afAlt : Word
  bcAlt : Word
  deAlt : Word
  hlAlt : Word
  ix : Word
  iy : Word
  sp : Word
  pc : Word
  /-- `I`, the interrupt vector base (R26) -/
  i : Byte
  /-- `R`, the refresh register (R26, R27) -/
  r : Byte
  /-- `MW`, the memory address latch (R28) -/
  mw : Word
  iff1 : Bool
  iff2 : Bool
  im : IntMode
  /-- `IntBlocked` (R40) -/
  intBlocked : Bool
  /-- `StateFlags.Reset` (R41) -/
  reqReset : Bool
  /-- `StateFlags.Int` (R41) -/
  reqInt : Bool
  /-- `StateFlags.Nmi` (R41) -/
  reqNmi : Bool
  /-- `StateFlags.Halted` (R41) -/
  halted : Bool
  prefixMode : PrefixMode
  indexMode : IndexMode
  /-- the displacement byte the engine holds in the indexed bit form (R42) -/
  heldDisp : Option Byte
  /-- `Tacts` (R43) -/
  tacts : Tact
  /-- `InterruptRaised` of the Interrupt Device (R44) -/
  devRaised : Bool
  /-- `InterruptRevoked` of the Interrupt Device (R44) -/
  devRevoked : Bool
  /-- `FrameIndex` of the Interrupt Device (R44) -/
  devFrame : Tact
  /-- `M` (R45) -/
  mem : Memory
  /-- the port accesses made so far, oldest first (R69, R75; log 5) -/
  ports : List PortEvent
  /-- the parameters of R5: no state of the hardware, and no step changes them (log 1) -/
  cfg : Config
deriving DecidableEq, Repr

/-- The machine never stops with a fault: "there is no runtime error path inside the engine" (R12, R408). The type has
no constructor (log 7). -/
inductive Fault where
deriving DecidableEq, Repr

/-- The ways a step has no meaning. -/
inductive Refusal where
  /-- Raised by `exec` for an instruction with no meaning yet; no instruction of this model is one. Safe. -/
  | notModelled (mnemonic : String)
  /-- Raised by the machine step for a configuration that breaks R6: "A configuration that breaks the constraint is
  refused by the model". Safe: the spec gives no step. -/
  | badConfiguration
  /-- Raised by the interrupt service in mode 0 when the bus byte is no RST opcode: "the model has no step from that
  state" (R413). Safe: the spec gives no step. -/
  | busByteIsNoRst (busByte : Byte)
  /-- Raised by the debug hook `SetInterruptMode` for a value outside 0 to 2: "any other value is refused" (R440).
  Safe: the spec gives no effect. -/
  | badInterruptMode (mode : Nat)
  /-- Raised by `exec` only for a term `Instr.wf` refuses: a prefix row of the table inside an ignored prefix. No bytes
  decode to one (log 12). Safe: no hardware instruction is such a term. -/
  | notAnInstruction
deriving DecidableEq, Repr

/-- What a step answers. -/
abbrev Result := Host.Outcome State Fault Refusal

/-- The construction state R452 (D23), which R450 leaves as it is: everything 0, the device Idle, memory not loaded,
the base configuration. -/
def State.reset : State :=
  { a := 0, f := 0, b := 0, c := 0, d := 0, e := 0, h := 0, l := 0,
    afAlt := 0, bcAlt := 0, deAlt := 0, hlAlt := 0, ix := 0, iy := 0, sp := 0, pc := 0,
    i := 0, r := 0, mw := 0, iff1 := false, iff2 := false, im := .im0, intBlocked := false,
    reqReset := false, reqInt := false, reqNmi := false, halted := false,
    prefixMode := .none, indexMode := .none, heldDisp := none,
    tacts := 0, devRaised := false, devRevoked := false, devFrame := 0,
    mem := [], ports := [], cfg := Config.base }

end Sys2Proof.Machine
end

