-- ==== Sys2Proof/Machine/Ops.lean ====
section
/-! DEFINITION. The named operations over memory, the bus and the registers: memory cells, the primitives of
20_memory.md R73, the stack, taking an interrupt (60_exceptions.md R410, R414) and returning from one. -/

namespace Sys2Proof.Machine

/-! ### Memory cells -/

/-- What an address reads as when nothing has written it (R45, log 6). -/
def Memory.unlisted : Byte := 0

/-- One byte. -/
def Memory.read : Memory → Nat → Byte
  | [], _ => Memory.unlisted
  | (k, v) :: rest, x => if k = x then v else Memory.read rest x

/-- Write one byte, keeping the canonical form: a byte equal to `unlisted` is not listed. -/
def Memory.write : Memory → Nat → Byte → Memory
  | [], x, v => if v = Memory.unlisted then [] else [(x, v)]
  | (k, w) :: rest, x, v =>
    if x < k then (if v = Memory.unlisted then (k, w) :: rest else (x, v) :: (k, w) :: rest)
    else if x = k then (if v = Memory.unlisted then rest else (x, v) :: rest)
    else (k, w) :: Memory.write rest x v

/-- Every listed address is at least `low` and below 65536, addresses rise strictly, no listed byte is `unlisted`. -/
def Memory.wfFrom : Nat → Memory → Bool
  | _, [] => true
  | low, (k, v) :: rest => decide (low ≤ k) && decide (k < 65536) && decide (v ≠ Memory.unlisted) && Memory.wfFrom (k + 1) rest

/-- The canonical form. -/
def Memory.wf (m : Memory) : Bool := Memory.wfFrom 0 m

/-- `M[x]`, with no bus cycle (R66; the look-ahead of R103, D24). -/
def State.peek (s : State) (x : Word) : Byte := s.mem.read x.toNat

/-- The word at `x`, low byte first; `x + 1` wraps (R62, R64). -/
def State.peekWord (s : State) (x : Word) : Word := mkWord (s.peek (x + 1)) (s.peek x)

/-- The bulk-load accessor of R441: one byte into the memory array, past ROM protection and contention. -/
def State.load (s : State) (x : Word) (v : Byte) : State := { s with mem := s.mem.write x.toNat v }

/-- Bulk-load bytes at rising addresses. -/
def State.loadBytes (s : State) (x : Word) : List Byte → State
  | [] => s
  | v :: rest => (s.load x v).loadBytes (x + 1) rest

/-! ### Pairs and plain register writes (R21) -/

def State.af (s : State) : Word := mkWord s.a s.f
def State.bc (s : State) : Word := mkWord s.b s.c
def State.de (s : State) : Word := mkWord s.d s.e
def State.hl (s : State) : Word := mkWord s.h s.l

def State.setAf (s : State) (w : Word) : State := { s with a := hi w, f := lo w }
def State.setBc (s : State) (w : Word) : State := { s with b := hi w, c := lo w }
def State.setDe (s : State) (w : Word) : State := { s with d := hi w, e := lo w }
def State.setHl (s : State) (w : Word) : State := { s with h := hi w, l := lo w }
def State.setA (s : State) (v : Byte) : State := { s with a := v }
def State.setF (s : State) (v : Byte) : State := { s with f := v }
def State.setB (s : State) (v : Byte) : State := { s with b := v }
def State.setI (s : State) (v : Byte) : State := { s with i := v }
def State.setR (s : State) (v : Byte) : State := { s with r := v }
def State.setSp (s : State) (w : Word) : State := { s with sp := w }
def State.setPc (s : State) (w : Word) : State := { s with pc := w }
def State.setMw (s : State) (w : Word) : State := { s with mw := w }
def State.setIm (s : State) (m : IntMode) : State := { s with im := m }
def State.setIff (s : State) (v1 v2 : Bool) : State := { s with iff1 := v1, iff2 := v2 }

/-- `IntBlocked <- 1` (R40). -/
def State.blockInt (s : State) : State := { s with intBlocked := true }

/-! ### Contention (R70 to R72) -/

/-- Whether a word lies in one of the ranges. -/
def inRanges (ranges : List AddrRange) (x : Word) : Bool :=
  ranges.any fun g => decide (g.first.toNat ≤ x.toNat) && decide (x.toNat ≤ g.last.toNat)

/-- `isContendedAddr` (R70). -/
def State.contendedAddr (s : State) (x : Word) : Bool := inRanges s.cfg.contendedAddrs x

/-- `isContendedPort` (R71). -/
def State.contendedPort (s : State) (p : Word) : Bool :=
  (s.cfg.portsAsAddrs && s.contendedAddr p) || s.cfg.contendedPorts.any fun g => p &&& g.mask == g.value

/-- `isRomAddr` (R68). -/
def State.isRom (s : State) (x : Word) : Bool := inRanges s.cfg.romAddrs x

/-- Whether an in-frame tact lies in the active part of one of a band's scanlines (R72). -/
def bandCovers (g : ContentionBand) (ft : Nat) : Bool :=
  decide (g.start ≤ ft) && decide (ft < g.start + g.lines * g.lineTacts)
    && decide ((ft - g.start) % g.lineTacts < g.activeTacts)

/-- The entry of a band's pattern at an in-frame tact it covers: the position in the scanline, shifted by the phase of the
scanline, modulo 8. -/
def bandWait (g : ContentionBand) (ft : Nat) : Nat :=
  g.pattern.getD (((ft - g.start) % g.lineTacts + (ft - g.start) / g.lineTacts * g.phaseStep) % 8) 0

/-- `CONTENTION(ft)` (R72): the first band that covers `ft` decides; 0 where none does. -/
def contentionAt : List ContentionBand → Nat → Nat
  | [], _ => 0
  | g :: rest, ft => if bandCovers g ft then bandWait g ft else contentionAt rest ft

/-- The frame tact `Tacts mod FRAME_TACTS` (R420). -/
def State.frameTact (s : State) : Nat := s.tacts.toNat % s.cfg.frameTacts

/-- The frame index `Tacts div FRAME_TACTS` (R420). -/
def State.frameIndex (s : State) : Tact := BitVec.ofNat 64 (s.tacts.toNat / s.cfg.frameTacts)

/-- The wait a memory access at `x` meets now (R73 `Contend(Mem, x)`). -/
def State.waitMem (s : State) (x : Word) : Nat :=
  if s.contendedAddr x then contentionAt s.cfg.contention s.frameTact else 0

/-- The wait a port access at `p` meets now (R73 `Contend(Port, p)`). -/
def State.waitPort (s : State) (p : Word) : Nat :=
  if s.contendedPort p then contentionAt s.cfg.contention s.frameTact else 0

/-! ### The bus primitives (R73) -/

/-- `Internal(n)`. -/
def State.tick (s : State) (n : Nat) : State := { s with tacts := s.tacts + BitVec.ofNat 64 n }

/-- The refresh increment `R[7] ++ ((R[6:0] + 1) mod 128)` (R27). -/
def bumpR (v : Byte) : Byte := (v &&& 0x80) ||| ((v + 1) &&& 0x7F)

/-- One refresh increment. -/
def State.refresh (s : State) : State := { s with r := bumpR s.r }

/-- `FetchOpcode()`; the byte it reads is `s.peek s.pc`. -/
def State.fetchOpcode (s : State) : State :=
  { s with tacts := s.tacts + BitVec.ofNat 64 (s.waitMem s.pc) + 4, pc := s.pc + 1, r := bumpR s.r }

/-- `FetchByte()`; the byte it reads is `s.peek s.pc`. -/
def State.fetchByte (s : State) : State :=
  { s with tacts := s.tacts + BitVec.ofNat 64 (s.waitMem s.pc) + 3, pc := s.pc + 1 }

/-- The time of `MemRead(x, 1)`; the byte it reads is `s.peek x`. -/
def State.readCycle (s : State) (x : Word) : State :=
  { s with tacts := s.tacts + BitVec.ofNat 64 (s.waitMem x) + 3 }

/-- `MemWrite(x, 1, v)`: a ROM address keeps its byte (R68). -/
def State.writeByte (s : State) (x : Word) (v : Byte) : State :=
  { s with
    tacts := s.tacts + BitVec.ofNat 64 (s.waitMem x) + 3
    mem := if s.isRom x then s.mem else s.mem.write x.toNat v }

/-- `Tacts` after the contention lookup of a port access: the tact of its event (R69, R75). -/
def State.portTact (s : State) (p : Word) : Tact := s.tacts + BitVec.ofNat 64 (s.waitPort p)

/-- The byte `PortRead(p)` returns (R69). -/
def State.portIn (s : State) (p : Word) : Byte := Config.portRead p (s.portTact p) s.ports

/-- The time of `PortRead(p)` and its record in the history. -/
def State.portInCycle (s : State) (p : Word) : State :=
  { s with tacts := s.portTact p + 4, ports := s.ports ++ [.input p (s.portIn p) (s.portTact p)] }

/-- `PortWrite(p, v)` (R75). -/
def State.portOut (s : State) (p : Word) (v : Byte) : State :=
  { s with tacts := s.portTact p + 4, ports := s.ports ++ [.output p v (s.portTact p)] }

/-! ### The fetch of each format (R90, R107) -/

/-- The two M1 fetches of a CB, ED, DD or FD instruction. -/
def State.fetchPrefixed (s : State) : State := s.fetchOpcode.fetchOpcode

/-- Prefix, opcode, displacement and the address addition of an indexed operand. -/
def State.fetchIndexed (s : State) : State := s.fetchPrefixed.fetchByte.tick 5

/-- The front of an indexed bit instruction (R104). -/
def State.fetchIdxCb (s : State) : State := s.fetchPrefixed.fetchByte.fetchByte.tick 2

/-! ### The stack (R24, R65) -/

/-- Push a word: `SP` moves before each byte, high byte first. -/
def State.push (s : State) (w : Word) : State :=
  let t := (s.setSp (s.sp - 1)).writeByte (s.sp - 1) (hi w)
  (t.setSp (s.sp - 2)).writeByte (s.sp - 2) (lo w)

/-- The word on top of the stack. -/
def State.topWord (s : State) : Word := s.peekWord s.sp

/-- The two reads of a pop, `SP` moving after each. -/
def State.popCycles (s : State) : State :=
  ((s.readCycle s.sp).readCycle (s.sp + 1)).setSp (s.sp + 2)

/-- `PC <- w; MW <- w`. -/
def State.enterAt (s : State) (w : Word) : State := { s with pc := w, mw := w }

/-- Pop `PC`, and `MW` with it: the returns of R339. -/
def State.returnFromStack (s : State) : State := s.popCycles.enterAt s.topWord

/-! ### Taking an interrupt and returning from one -/

/-- `LeaveHalt()` (R410). -/
def State.leaveHalt (s : State) : State :=
  { s with pc := if s.halted && s.cfg.haltPc == .self then s.pc + 1 else s.pc, halted := false }

/-- What accepting an interrupt of either kind does in common (R410, R414): leave the halted state, one refresh, `ack`
internal tacts, push `PC`. The caller clears the request and the flip-flops and sets the new `PC`. -/
def State.takeInterrupt (s : State) (ack : Nat) : State :=
  let t := (s.leaveHalt.refresh).tick ack
  t.push t.pc

/-- `ServiceNmi()` (R414). -/
def State.serviceNmi (s : State) : State :=
  (({ s with reqNmi := false, iff1 := false }).takeInterrupt 5).enterAt 0x0066

/-- What every mode of `ServiceInt()` does first (R410). -/
def State.acceptInt (s : State) : State :=
  ({ s with reqInt := false, iff1 := false, iff2 := false }).takeInterrupt 7

/-- `ServiceInt()` (R410) by mode: R411 (IM 1), R412 (IM 2), R413 (IM 0). -/
def State.serviceInt (s : State) : Result :=
  let t := s.acceptInt
  match s.im with
  | .im1 => .next (t.enterAt 0x0038)
  | .im2 =>
    let v := mkWord s.i s.cfg.intBusByte
    .next (((t.readCycle v).readCycle (v + 1)).enterAt (t.peekWord v))
  | .im0 =>
    if s.cfg.intBusByte &&& 0xC7 = 0xC7 then .next (t.enterAt ((s.cfg.intBusByte &&& 0x38).setWidth 16))
    else .refused (.busByteIsNoRst s.cfg.intBusByte)

/-- The return of an interrupt handler, RETI and RETN (47_control.md R341, R342; R416): pop `PC`, then
`IFF1 <- IFF2`. -/
def returnFromInterrupt (s : State) : State :=
  { s.fetchPrefixed.returnFromStack with iff1 := s.iff2 }

/-! ### Reset (70_reset_and_hazards.md R450) -/

/-- `ResetAction()`. -/
def State.resetAction (s : State) : State :=
  { s with
    a := 0, f := 0, b := 0, c := 0, d := 0, e := 0, h := 0, l := 0
    i := 0, r := 0, sp := 0, pc := 0, mw := 0
    iff1 := false, iff2 := false, im := .im0, intBlocked := false
    reqReset := false, reqInt := false, reqNmi := false, halted := false
    prefixMode := .none, indexMode := .none, heldDisp := none
    devRaised := false, devRevoked := false, devFrame := s.frameIndex }

end Sys2Proof.Machine
end

