-- ==== Sys2Proof/Machine/Operands.lean ====
section
/-! DEFINITION. The operand forms of 30_encoding.md R92 to R95, R101, R102: registers and pairs by their field codes, index
registers and their halves, conditions, indexed addresses, relative jumps. -/

namespace Sys2Proof.Machine

/-- `r8[z]` (R92); code 6 is no register. -/
def State.r8 (s : State) : Reg8 → Byte
  | .b => s.b | .c => s.c | .d => s.d | .e => s.e | .h => s.h | .l => s.l | .a => s.a

/-- `r8[y] <- v`. -/
def State.setR8 (s : State) (rr : Reg8) (v : Byte) : State :=
  match rr with
  | .b => { s with b := v }
  | .c => { s with c := v }
  | .d => { s with d := v }
  | .e => { s with e := v }
  | .h => { s with h := v }
  | .l => { s with l := v }
  | .a => { s with a := v }

/-- `rp[p]` (R93). -/
def State.pair (s : State) : Pair → Word
  | .bc => s.bc | .de => s.de | .hl => s.hl | .sp => s.sp

/-- `rp[p] <- w`. -/
def State.setPair (s : State) (dd : Pair) (w : Word) : State :=
  match dd with
  | .bc => s.setBc w
  | .de => s.setDe w
  | .hl => s.setHl w
  | .sp => s.setSp w

/-- `rp2[p]` (R94). -/
def State.pairQ (s : State) : PairQ → Word
  | .bc => s.bc | .de => s.de | .hl => s.hl | .af => s.af

/-- `rp2[p] <- w`; `AF` loads every bit of `F` (41_load16.md R172). -/
def State.setPairQ (s : State) (qq : PairQ) (w : Word) : State :=
  match qq with
  | .bc => s.setBc w
  | .de => s.setDe w
  | .hl => s.setHl w
  | .af => s.setAf w

/-- `XY`, the index register a prefix selects (R10, R101). -/
def State.xy (s : State) : Idx → Word
  | .ix => s.ix | .iy => s.iy

/-- `XY <- w`. -/
def State.setXy (s : State) (k : Idx) (w : Word) : State :=
  match k with
  | .ix => { s with ix := w }
  | .iy => { s with iy := w }

/-- `r8x[z]`: `r8` with `XYH` and `XYL` for codes 4 and 5 (R102). -/
def State.rx (s : State) (k : Idx) : RegX → Byte
  | .b => s.b | .c => s.c | .d => s.d | .e => s.e | .a => s.a
  | .xh => hi (s.xy k)
  | .xl => lo (s.xy k)

/-- `r8x[y] <- v`; writing a half leaves the other half (R23). -/
def State.setRx (s : State) (k : Idx) (rx : RegX) (v : Byte) : State :=
  match rx with
  | .b => { s with b := v }
  | .c => { s with c := v }
  | .d => { s with d := v }
  | .e => { s with e := v }
  | .a => { s with a := v }
  | .xh => s.setXy k (mkWord v (lo (s.xy k)))
  | .xl => s.setXy k (mkWord (hi (s.xy k)) v)

/-- The second operand of `ADD XY,pp` (44_alu16.md R263). -/
def State.pairX (s : State) (k : Idx) : PairX → Word
  | .bc => s.bc | .de => s.de | .xy => s.xy k | .sp => s.sp

/-- `cc[y]` (10_state.md R37). -/
def State.cond (s : State) : Cond → Bool
  | .nz => !s.f.getLsbD 6
  | .z => s.f.getLsbD 6
  | .nc => !s.f.getLsbD 0
  | .c => s.f.getLsbD 0
  | .po => !s.f.getLsbD 2
  | .pe => s.f.getLsbD 2
  | .p => !s.f.getLsbD 7
  | .m => s.f.getLsbD 7

/-- `sext_16(d)` (00_scope.md R8). -/
def sext16 (d : Byte) : Word := d.signExtend 16

/-- `XY + sext_16(d)` (R101). -/
def State.idxAddr (s : State) (k : Idx) (d : Byte) : Word := s.xy k + sext16 d

/-- The taken part of a relative jump (47_control.md R332): `Internal(5)`, `PC <- PC + sext_16(e)`, `MW <- PC`. -/
def State.jumpRelative (s : State) (e : Byte) : State := (s.tick 5).enterAt (s.pc + sext16 e)

end Sys2Proof.Machine
end

