-- ==== Sys2Proof/Machine/Flags.lean ====
section
/-! DEFINITION. The flag register and every flag computation (10_state.md R30 to R36, 00_scope.md R13, and the Flags lines
of files 40 to 48), as pure functions of the operands and the old `F`. -/

namespace Sys2Proof.Machine

/-! ### The flag bits (R30) -/

def flagS (f : Byte) : Bool := f.getLsbD 7
def flagZ (f : Byte) : Bool := f.getLsbD 6
def flagY (f : Byte) : Bool := f.getLsbD 5
def flagH (f : Byte) : Bool := f.getLsbD 4
def flagX (f : Byte) : Bool := f.getLsbD 3
def flagPV (f : Byte) : Bool := f.getLsbD 2
def flagN (f : Byte) : Bool := f.getLsbD 1
def flagC (f : Byte) : Bool := f.getLsbD 0

/-- `F` from its eight bits, bit 7 first. -/
def mkF (s z y h x pv n c : Bool) : Byte :=
  bitAt s 7 ||| bitAt z 6 ||| bitAt y 5 ||| bitAt h 4 ||| bitAt x 3 ||| bitAt pv 2 ||| bitAt n 1 ||| bitAt c 0

/-- `F` with `SZXY(v)` (R13) and the other four bits. -/
def szxy (v : Byte) (h pv n c : Bool) : Byte :=
  mkF (v.getLsbD 7) (v == 0) (v.getLsbD 5) h (v.getLsbD 3) pv n c

/-- `parity(v)`: an even number of one bits (R9). -/
def parity (v : Byte) : Bool :=
  !(v.getLsbD 0 ^^ v.getLsbD 1 ^^ v.getLsbD 2 ^^ v.getLsbD 3 ^^ v.getLsbD 4 ^^ v.getLsbD 5 ^^ v.getLsbD 6 ^^ v.getLsbD 7)

/-! ### 8-bit arithmetic and logic (43_alu8.md) -/

/-- `halfcarry_add` and `halfborrow_sub` (R220). -/
def halfCarry (a s res : Byte) : Bool := (a ^^^ s ^^^ res).getLsbD 4

/-- `overflow_add` (R220). -/
def overflowAdd (a s res : Byte) : Bool := a.getLsbD 7 == s.getLsbD 7 && res.getLsbD 7 != a.getLsbD 7

/-- `overflow_sub` (R220). -/
def overflowSub (a s res : Byte) : Bool := a.getLsbD 7 != s.getLsbD 7 && res.getLsbD 7 != a.getLsbD 7

/-- The `alu` field (R96). -/
inductive AluOp where
  | add | adc | sub | sbc | and | xor | or | cp
deriving DecidableEq, Repr

/-- Addition with carry-in: the result and `F` (R221, R222). -/
def addWithCarry (a s : Byte) (c : Bool) : Byte × Byte :=
  let t := a.toNat + s.toNat + c.toNat
  let res := BitVec.ofNat 8 t
  (res, szxy res (halfCarry a s res) (overflowAdd a s res) false (decide (255 < t)))

/-- Subtraction with borrow-in: the result and `F` (R223, R224). -/
def subWithBorrow (a s : Byte) (c : Bool) : Byte × Byte :=
  let t : Int := (a.toNat : Int) - s.toNat - c.toNat
  let res := BitVec.ofInt 8 t
  (res, szxy res (halfCarry a s res) (overflowSub a s res) true (decide (t < 0)))

/-- The result and `F` of a logical operation (R225 to R227). -/
def logical (res : Byte) (h : Bool) : Byte × Byte := (res, szxy res h (parity res) false false)

/-- `CP` (R228): `A` stays, `F` as for SUB but Y and X from the operand. -/
def compare8 (a s : Byte) : Byte × Byte :=
  let p := subWithBorrow a s false
  (a, mkF (flagS p.2) (flagZ p.2) (s.getLsbD 5) (flagH p.2) (s.getLsbD 3) (flagPV p.2) (flagN p.2) (flagC p.2))

/-- `alu[y]` on `A`, the operand and the carry: the new `A` and the new `F` (R221 to R228). -/
def AluOp.apply (op : AluOp) (a s : Byte) (c : Bool) : Byte × Byte :=
  match op with
  | .add => addWithCarry a s false
  | .adc => addWithCarry a s c
  | .sub => subWithBorrow a s false
  | .sbc => subWithBorrow a s c
  | .and => logical (a &&& s) true
  | .xor => logical (a ^^^ s) false
  | .or => logical (a ||| s) false
  | .cp => compare8 a s

/-- `INC` of a byte (R229): the result and `F`. -/
def inc8 (f v : Byte) : Byte × Byte :=
  (v + 1, szxy (v + 1) (v &&& 0x0F == 0x0F) (v == 0x7F) false (flagC f))

/-- `DEC` of a byte (R232). -/
def dec8 (f v : Byte) : Byte × Byte :=
  (v - 1, szxy (v - 1) (v &&& 0x0F == 0) (v == 0x80) true (flagC f))

/-- `DAA` (R235). -/
def daa8 (a f : Byte) : Byte × Byte :=
  let low := a &&& 0x0F
  let lowDiff : Byte := if flagH f || decide (9 < low.toNat) then 0x06 else 0
  let carry := flagC f || decide (0x99 < a.toNat)
  let diff := if carry then lowDiff ||| 0x60 else lowDiff
  let h := if flagN f then flagH f && decide (low.toNat < 6) else decide (9 < low.toNat)
  let res := if flagN f then a - diff else a + diff
  (res, szxy res h (parity res) (flagN f) carry)

/-- `CPL` (R236). -/
def cpl8 (a f : Byte) : Byte × Byte :=
  (~~~a, mkF (flagS f) (flagZ f) ((~~~a).getLsbD 5) true ((~~~a).getLsbD 3) (flagPV f) true (flagC f))

/-- `CCF` (R238). -/
def ccf8 (a f : Byte) : Byte × Byte :=
  (a, mkF (flagS f) (flagZ f) (a.getLsbD 5) (flagC f) (a.getLsbD 3) (flagPV f) false (!flagC f))

/-- `SCF` (R239). -/
def scf8 (a f : Byte) : Byte × Byte :=
  (a, mkF (flagS f) (flagZ f) (a.getLsbD 5) false (a.getLsbD 3) (flagPV f) false true)

/-! ### 16-bit arithmetic (44_alu16.md) -/

/-- The carry out of bit 11 (R260). -/
def halfCarry16 (a b res : Word) : Bool := (a ^^^ b ^^^ res).getLsbD 12

/-- `ADD HL,ss` and `ADD XY,pp` (R260, R263): the result and `F`. -/
def add16 (f : Byte) (a b : Word) : Word × Byte :=
  let t := a.toNat + b.toNat
  let res := BitVec.ofNat 16 t
  (res, mkF (flagS f) (flagZ f) (res.getLsbD 13) (halfCarry16 a b res) (res.getLsbD 11) (flagPV f) false
    (decide (65535 < t)))

/-- `ADC HL,ss` (R261). -/
def adc16 (f : Byte) (a b : Word) : Word × Byte :=
  let t := a.toNat + b.toNat + (flagC f).toNat
  let res := BitVec.ofNat 16 t
  (res, mkF (res.getLsbD 15) (res == 0) (res.getLsbD 13) (halfCarry16 a b res) (res.getLsbD 11)
    (a.getLsbD 15 == b.getLsbD 15 && res.getLsbD 15 != a.getLsbD 15) false (decide (65535 < t)))

/-- `SBC HL,ss` (R262). -/
def sbc16 (f : Byte) (a b : Word) : Word × Byte :=
  let t : Int := (a.toNat : Int) - b.toNat - (flagC f).toNat
  let res := BitVec.ofInt 16 t
  (res, mkF (res.getLsbD 15) (res == 0) (res.getLsbD 13) (halfCarry16 a b res) (res.getLsbD 11)
    (a.getLsbD 15 != b.getLsbD 15 && res.getLsbD 15 != a.getLsbD 15) true (decide (t < 0)))

/-! ### Rotates and shifts (45_rotate_shift.md) -/

/-- The `rot` field (R97). -/
inductive RotOp where
  | rlc | rrc | rl | rr | sla | sra | sll | srl
deriving DecidableEq, Repr

/-- `(res, c) = op(v, F.C)` (R285 to R292). -/
def RotOp.run (op : RotOp) (v : Byte) (c : Bool) : Byte × Bool :=
  match op with
  | .rlc => ((v <<< 1) ||| bitAt (v.getLsbD 7) 0, v.getLsbD 7)
  | .rrc => ((v >>> 1) ||| bitAt (v.getLsbD 0) 7, v.getLsbD 0)
  | .rl => ((v <<< 1) ||| bitAt c 0, v.getLsbD 7)
  | .rr => ((v >>> 1) ||| bitAt c 7, v.getLsbD 0)
  | .sla => (v <<< 1, v.getLsbD 7)
  | .sra => ((v >>> 1) ||| (v &&& 0x80), v.getLsbD 0)
  | .sll => ((v <<< 1) ||| 1, v.getLsbD 7)
  | .srl => (v >>> 1, v.getLsbD 0)

/-- A CB rotate or shift: the result and `F` (R284). -/
def rot8 (op : RotOp) (f v : Byte) : Byte × Byte :=
  let p := op.run v (flagC f)
  (p.1, szxy p.1 false (parity p.1) false p.2)

/-- An accumulator rotate: the new `A` and `F` (R280 to R283). -/
def rotA8 (op : RotOp) (a f : Byte) : Byte × Byte :=
  let p := op.run a (flagC f)
  (p.1, mkF (flagS f) (flagZ f) (p.1.getLsbD 5) false (p.1.getLsbD 3) (flagPV f) false p.2)

/-- `RLD`: the new `A` and the new memory byte (R293). -/
def rld8 (a m : Byte) : Byte × Byte :=
  ((a &&& 0xF0) ||| (m >>> 4), (m <<< 4) ||| (a &&& 0x0F))

/-- `RRD` (R294). -/
def rrd8 (a m : Byte) : Byte × Byte :=
  ((a &&& 0xF0) ||| (m &&& 0x0F), ((a &&& 0x0F) <<< 4) ||| (m >>> 4))

/-- The flags of a byte moved into a register with parity: RLD, RRD (R293) and IN r,(C) (48_io.md R361). -/
def parityFlags (f v : Byte) : Byte := szxy v false (parity v) false (flagC f)

/-! ### Bits (46_bit.md) -/

/-- `BIT b` of `v`, Y and X being bits 5 and 3 of `yx` (the common flags of R310 to R312). -/
def bitFlags (f : Byte) (b : BitVec 3) (v yx : Byte) : Byte :=
  let set := v.getLsbD b.toNat
  mkF (b == 7 && set) (!set) (yx.getLsbD 5) true (yx.getLsbD 3) (!set) false (flagC f)

/-- `RES b` (R316): the result, and `F` as it was. -/
def res8 (b : BitVec 3) (f v : Byte) : Byte × Byte := (v &&& ~~~((1 : Byte) <<< b.toNat), f)

/-- `SET b` (R313): the result, and `F` as it was. -/
def set8 (b : BitVec 3) (f v : Byte) : Byte × Byte := (v ||| ((1 : Byte) <<< b.toNat), f)

/-! ### Loads with flags, block transfer, block search, block I/O -/

/-- `LD A,I` and `LD A,R` (40_load8.md R144, R145). -/
def specialFlags (f v : Byte) (iff2 : Bool) : Byte := szxy v false iff2 false (flagC f)

/-- `LDI` and its kin (42_exchange_block.md R196), `count` being the new `BC`. -/
def transferFlags (f a v : Byte) (count : Word) : Byte :=
  let n := v + a
  mkF (flagS f) (flagZ f) (n.getLsbD 1) false (n.getLsbD 3) (count != 0) false (flagC f)

/-- `CPI` and its kin (R200), `count` being the new `BC`. -/
def searchFlags (f a v : Byte) (count : Word) : Byte :=
  let res := a - v
  let h := halfCarry a v res
  let n := res - bitAt h 0
  mkF (res.getLsbD 7) (res == 0) (n.getLsbD 1) h (n.getLsbD 3) (count != 0) true (flagC f)

/-- Block I/O (48_io.md R366): `b` the new `B`, `v` the byte moved, `k` the sum of R366. -/
def blockIoFlags (b v : Byte) (k : Nat) : Byte :=
  szxy b (decide (255 < k)) (parity (BitVec.ofNat 8 (k % 8) ^^^ b)) (v.getLsbD 7) (decide (255 < k))

end Sys2Proof.Machine
end

