-- ==== Sys2Proof/Machine/Alu16.lean ====
section
/-! DEFINITION. 44_alu16.md: 16-bit arithmetic. The shared operations, then one meaning per instruction. -/

namespace Sys2Proof.Machine

/-- `ADD HL,ss` (R260). -/
def addHl (ss : Pair) (s : State) : State :=
  let p := add16 s.f s.hl (s.pair ss)
  (((s.fetchOpcode.tick 7).setMw (s.hl + 1)).setHl p.1).setF p.2

/-- `ADC HL,ss` (R261). -/
def adcHl (ss : Pair) (s : State) : State :=
  let p := adc16 s.f s.hl (s.pair ss)
  (((s.fetchPrefixed.tick 7).setMw (s.hl + 1)).setHl p.1).setF p.2

/-- `SBC HL,ss` (R262). -/
def sbcHl (ss : Pair) (s : State) : State :=
  let p := sbc16 s.f s.hl (s.pair ss)
  (((s.fetchPrefixed.tick 7).setMw (s.hl + 1)).setHl p.1).setF p.2

/-- `ADD XY,pp` (R263). -/
def addXy (k : Idx) (pp : PairX) (s : State) : State :=
  let p := add16 s.f (s.xy k) (s.pairX k pp)
  (((s.fetchPrefixed.tick 7).setMw (s.xy k + 1)).setXy k p.1).setF p.2

/-- ADD HL,ss (R260). -/
def execAddHlSs (ss : Pair) (s : State) : Result := .next (addHl ss s)

/-- INC ss (R264). -/
def execIncSs (ss : Pair) (s : State) : Result := .next ((s.fetchOpcode.tick 2).setPair ss (s.pair ss + 1))

/-- DEC ss (R266). -/
def execDecSs (ss : Pair) (s : State) : Result := .next ((s.fetchOpcode.tick 2).setPair ss (s.pair ss - 1))

/-- SBC HL,ss (R262). -/
def execSbcHlSs (ss : Pair) (s : State) : Result := .next (sbcHl ss s)

/-- ADC HL,ss (R261). -/
def execAdcHlSs (ss : Pair) (s : State) : Result := .next (adcHl ss s)

/-- INC IX (R265). -/
def execIncIx (s : State) : Result := .next ((s.fetchPrefixed.tick 2).setXy .ix (s.xy .ix + 1))

/-- DEC IX (R267). -/
def execDecIx (s : State) : Result := .next ((s.fetchPrefixed.tick 2).setXy .ix (s.xy .ix - 1))

/-- ADD IX,pp (R263). -/
def execAddIxPp (pp : PairX) (s : State) : Result := .next (addXy .ix pp s)

/-- INC IY (R265). -/
def execIncIy (s : State) : Result := .next ((s.fetchPrefixed.tick 2).setXy .iy (s.xy .iy + 1))

/-- DEC IY (R267). -/
def execDecIy (s : State) : Result := .next ((s.fetchPrefixed.tick 2).setXy .iy (s.xy .iy - 1))

/-- ADD IY,pp (R263). -/
def execAddIyPp (pp : PairX) (s : State) : Result := .next (addXy .iy pp s)

end Sys2Proof.Machine
end

