-- ==== Sys2Proof/Machine/Modify.lean ====
section
/-! DEFINITION. The read-modify-write operations shared by 43_alu8.md, 45_rotate_shift.md and 46_bit.md. -/

namespace Sys2Proof.Machine

/-- Read, change and write back a byte of memory (R230, R284, R314), after the fetches in `t`; `g` gives the new byte and
the new `F`. -/
def modifyMem (x : Word) (g : Byte → Byte × Byte) (t : State) : State :=
  let p := g (t.peek x)
  (((t.readCycle x).tick 1).writeByte x p.1).setF p.2

/-- The indexed bit forms that write memory (R104, R284, R315, R318). -/
def modifyIdxCb (k : Idx) (d : Byte) (g : Byte → Byte × Byte) (s : State) : State :=
  let x := s.idxAddr k d
  (modifyMem x g s.fetchIdxCb).setMw x

/-- The same with the copy of the result to a plain register (R284, R315, R318, D38). -/
def modifyIdxCbCopy (k : Idx) (d : Byte) (g : Byte → Byte × Byte) (rr : Reg8) (s : State) : State :=
  (modifyIdxCb k d g s).setR8 rr (g (s.peek (s.idxAddr k d))).1

end Sys2Proof.Machine
end

