-- ==== Sys2Proof/Machine/Alu8.lean ====
section
/-! DEFINITION. 43_alu8.md: 8-bit arithmetic and logic. The shared operations, then one meaning per instruction. -/

namespace Sys2Proof.Machine

/-- `alu[y]` with the source byte `v`, after the cycles in `t` (R220). -/
def aluWith (op : AluOp) (v : Byte) (t : State) : State :=
  let p := op.apply t.a v (flagC t.f)
  (t.setA p.1).setF p.2

/-- The form `r` of R220. -/
def aluReg (op : AluOp) (rr : Reg8) (s : State) : State := aluWith op (s.r8 rr) s.fetchOpcode

/-- The form `n` of R220. -/
def aluImm (op : AluOp) (n : Byte) (s : State) : State := aluWith op n s.fetchOpcode.fetchByte

/-- The form `(HL)` of R220. -/
def aluMemHl (op : AluOp) (s : State) : State := aluWith op (s.peek s.hl) (s.fetchOpcode.readCycle s.hl)

/-- The form `(XY+d)` of R220, the only one that writes `MW`. -/
def aluMemIdx (op : AluOp) (k : Idx) (d : Byte) (s : State) : State :=
  let x := s.idxAddr k d
  (aluWith op (s.peek x) (s.fetchIndexed.readCycle x)).setMw x

/-- The forms `XYH` and `XYL` of R220. -/
def aluHalf (op : AluOp) (k : Idx) (rx : RegX) (s : State) : State := aluWith op (s.rx k rx) s.fetchPrefixed

/-- `INC r` (R229). -/
def incReg (rr : Reg8) (s : State) : State :=
  let p := inc8 s.f (s.r8 rr)
  (s.fetchOpcode.setR8 rr p.1).setF p.2

/-- `DEC r` (R232). -/
def decReg (rr : Reg8) (s : State) : State :=
  let p := dec8 s.f (s.r8 rr)
  (s.fetchOpcode.setR8 rr p.1).setF p.2

/-- `INC XYH` and `INC XYL` (R229). -/
def incHalf (k : Idx) (rx : RegX) (s : State) : State :=
  let p := inc8 s.f (s.rx k rx)
  (s.fetchPrefixed.setRx k rx p.1).setF p.2

/-- `DEC XYH` and `DEC XYL` (R232). -/
def decHalf (k : Idx) (rx : RegX) (s : State) : State :=
  let p := dec8 s.f (s.rx k rx)
  (s.fetchPrefixed.setRx k rx p.1).setF p.2

/-- An operation on `A` and `F` alone (R235, R236, R238, R239). -/
def accFlags (g : Byte → Byte → Byte × Byte) (s : State) : State :=
  let p := g s.a s.f
  (s.fetchOpcode.setA p.1).setF p.2

/-- `NEG` (R237): `SUB` from 0. -/
def negate (s : State) : State :=
  let p := subWithBorrow 0 s.a false
  (s.fetchPrefixed.setA p.1).setF p.2

/-- INC (HL) (R230). -/
def execIncMemHl (s : State) : Result := .next (modifyMem s.hl (inc8 s.f) s.fetchOpcode)

/-- DEC (HL) (R233). -/
def execDecMemHl (s : State) : Result := .next (modifyMem s.hl (dec8 s.f) s.fetchOpcode)

/-- INC r (R229). -/
def execIncR (rr : Reg8) (s : State) : Result := .next (incReg rr s)

/-- DEC r (R232). -/
def execDecR (rr : Reg8) (s : State) : Result := .next (decReg rr s)

/-- DAA (R235). -/
def execDaa (s : State) : Result := .next (accFlags daa8 s)

/-- CPL (R236). -/
def execCpl (s : State) : Result := .next (accFlags cpl8 s)

/-- SCF (R239). -/
def execScf (s : State) : Result := .next (accFlags scf8 s)

/-- CCF (R238). -/
def execCcf (s : State) : Result := .next (accFlags ccf8 s)

/-- ADD A,(HL) (R221). -/
def execAddAMemHl (s : State) : Result := .next (aluMemHl .add s)

/-- ADD A,r (R221). -/
def execAddAR (rr : Reg8) (s : State) : Result := .next (aluReg .add rr s)

/-- ADC A,(HL) (R222). -/
def execAdcAMemHl (s : State) : Result := .next (aluMemHl .adc s)

/-- ADC A,r (R222). -/
def execAdcAR (rr : Reg8) (s : State) : Result := .next (aluReg .adc rr s)

/-- SUB (HL) (R223). -/
def execSubMemHl (s : State) : Result := .next (aluMemHl .sub s)

/-- SUB r (R223). -/
def execSubR (rr : Reg8) (s : State) : Result := .next (aluReg .sub rr s)

/-- SBC A,(HL) (R224). -/
def execSbcAMemHl (s : State) : Result := .next (aluMemHl .sbc s)

/-- SBC A,r (R224). -/
def execSbcAR (rr : Reg8) (s : State) : Result := .next (aluReg .sbc rr s)

/-- AND (HL) (R225). -/
def execAndMemHl (s : State) : Result := .next (aluMemHl .and s)

/-- AND r (R225). -/
def execAndR (rr : Reg8) (s : State) : Result := .next (aluReg .and rr s)

/-- XOR (HL) (R226). -/
def execXorMemHl (s : State) : Result := .next (aluMemHl .xor s)

/-- XOR r (R226). -/
def execXorR (rr : Reg8) (s : State) : Result := .next (aluReg .xor rr s)

/-- OR (HL) (R227). -/
def execOrMemHl (s : State) : Result := .next (aluMemHl .or s)

/-- OR r (R227). -/
def execOrR (rr : Reg8) (s : State) : Result := .next (aluReg .or rr s)

/-- CP (HL) (R228). -/
def execCpMemHl (s : State) : Result := .next (aluMemHl .cp s)

/-- CP r (R228). -/
def execCpR (rr : Reg8) (s : State) : Result := .next (aluReg .cp rr s)

/-- ADD A,n (R221). -/
def execAddAN (n : Byte) (s : State) : Result := .next (aluImm .add n s)

/-- ADC A,n (R222). -/
def execAdcAN (n : Byte) (s : State) : Result := .next (aluImm .adc n s)

/-- SUB n (R223). -/
def execSubN (n : Byte) (s : State) : Result := .next (aluImm .sub n s)

/-- SBC A,n (R224). -/
def execSbcAN (n : Byte) (s : State) : Result := .next (aluImm .sbc n s)

/-- AND n (R225). -/
def execAndN (n : Byte) (s : State) : Result := .next (aluImm .and n s)

/-- XOR n (R226). -/
def execXorN (n : Byte) (s : State) : Result := .next (aluImm .xor n s)

/-- OR n (R227). -/
def execOrN (n : Byte) (s : State) : Result := .next (aluImm .or n s)

/-- CP n (R228). -/
def execCpN (n : Byte) (s : State) : Result := .next (aluImm .cp n s)

/-- NEG, opcode bits 5:3 = copy (000 documented) (R237). -/
def execNeg (_copy : BitVec 3) (s : State) : Result := .next (negate s)

/-- INC IXH (R229). -/
def execIncIxh (s : State) : Result := .next (incHalf .ix .xh s)

/-- DEC IXH (R232). -/
def execDecIxh (s : State) : Result := .next (decHalf .ix .xh s)

/-- INC IXL (R229). -/
def execIncIxl (s : State) : Result := .next (incHalf .ix .xl s)

/-- DEC IXL (R232). -/
def execDecIxl (s : State) : Result := .next (decHalf .ix .xl s)

/-- INC (IX+d) (R231). -/
def execIncMemIx (d : Byte) (s : State) : Result :=
  .next (modifyMem (s.idxAddr .ix d) (inc8 s.f) ((s.fetchIndexed).setMw (s.idxAddr .ix d)))

/-- DEC (IX+d) (R234). -/
def execDecMemIx (d : Byte) (s : State) : Result :=
  .next (modifyMem (s.idxAddr .ix d) (dec8 s.f) ((s.fetchIndexed).setMw (s.idxAddr .ix d)))

/-- ADD A,(IX+d) (R221). -/
def execAddAMemIx (d : Byte) (s : State) : Result := .next (aluMemIdx .add .ix d s)

/-- ADD A,IXH (R221). -/
def execAddAIxh (s : State) : Result := .next (aluHalf .add .ix .xh s)

/-- ADD A,IXL (R221). -/
def execAddAIxl (s : State) : Result := .next (aluHalf .add .ix .xl s)

/-- ADC A,(IX+d) (R222). -/
def execAdcAMemIx (d : Byte) (s : State) : Result := .next (aluMemIdx .adc .ix d s)

/-- ADC A,IXH (R222). -/
def execAdcAIxh (s : State) : Result := .next (aluHalf .adc .ix .xh s)

/-- ADC A,IXL (R222). -/
def execAdcAIxl (s : State) : Result := .next (aluHalf .adc .ix .xl s)

/-- SUB (IX+d) (R223). -/
def execSubMemIx (d : Byte) (s : State) : Result := .next (aluMemIdx .sub .ix d s)

/-- SUB IXH (R223). -/
def execSubIxh (s : State) : Result := .next (aluHalf .sub .ix .xh s)

/-- SUB IXL (R223). -/
def execSubIxl (s : State) : Result := .next (aluHalf .sub .ix .xl s)

/-- SBC A,(IX+d) (R224). -/
def execSbcAMemIx (d : Byte) (s : State) : Result := .next (aluMemIdx .sbc .ix d s)

/-- SBC A,IXH (R224). -/
def execSbcAIxh (s : State) : Result := .next (aluHalf .sbc .ix .xh s)

/-- SBC A,IXL (R224). -/
def execSbcAIxl (s : State) : Result := .next (aluHalf .sbc .ix .xl s)

/-- AND (IX+d) (R225). -/
def execAndMemIx (d : Byte) (s : State) : Result := .next (aluMemIdx .and .ix d s)

/-- AND IXH (R225). -/
def execAndIxh (s : State) : Result := .next (aluHalf .and .ix .xh s)

/-- AND IXL (R225). -/
def execAndIxl (s : State) : Result := .next (aluHalf .and .ix .xl s)

/-- XOR (IX+d) (R226). -/
def execXorMemIx (d : Byte) (s : State) : Result := .next (aluMemIdx .xor .ix d s)

/-- XOR IXH (R226). -/
def execXorIxh (s : State) : Result := .next (aluHalf .xor .ix .xh s)

/-- XOR IXL (R226). -/
def execXorIxl (s : State) : Result := .next (aluHalf .xor .ix .xl s)

/-- OR (IX+d) (R227). -/
def execOrMemIx (d : Byte) (s : State) : Result := .next (aluMemIdx .or .ix d s)

/-- OR IXH (R227). -/
def execOrIxh (s : State) : Result := .next (aluHalf .or .ix .xh s)

/-- OR IXL (R227). -/
def execOrIxl (s : State) : Result := .next (aluHalf .or .ix .xl s)

/-- CP (IX+d) (R228). -/
def execCpMemIx (d : Byte) (s : State) : Result := .next (aluMemIdx .cp .ix d s)

/-- CP IXH (R228). -/
def execCpIxh (s : State) : Result := .next (aluHalf .cp .ix .xh s)

/-- CP IXL (R228). -/
def execCpIxl (s : State) : Result := .next (aluHalf .cp .ix .xl s)

/-- INC IYH (R229). -/
def execIncIyh (s : State) : Result := .next (incHalf .iy .xh s)

/-- DEC IYH (R232). -/
def execDecIyh (s : State) : Result := .next (decHalf .iy .xh s)

/-- INC IYL (R229). -/
def execIncIyl (s : State) : Result := .next (incHalf .iy .xl s)

/-- DEC IYL (R232). -/
def execDecIyl (s : State) : Result := .next (decHalf .iy .xl s)

/-- INC (IY+d) (R231). -/
def execIncMemIy (d : Byte) (s : State) : Result :=
  .next (modifyMem (s.idxAddr .iy d) (inc8 s.f) ((s.fetchIndexed).setMw (s.idxAddr .iy d)))

/-- DEC (IY+d) (R234). -/
def execDecMemIy (d : Byte) (s : State) : Result :=
  .next (modifyMem (s.idxAddr .iy d) (dec8 s.f) ((s.fetchIndexed).setMw (s.idxAddr .iy d)))

/-- ADD A,(IY+d) (R221). -/
def execAddAMemIy (d : Byte) (s : State) : Result := .next (aluMemIdx .add .iy d s)

/-- ADD A,IYH (R221). -/
def execAddAIyh (s : State) : Result := .next (aluHalf .add .iy .xh s)

/-- ADD A,IYL (R221). -/
def execAddAIyl (s : State) : Result := .next (aluHalf .add .iy .xl s)

/-- ADC A,(IY+d) (R222). -/
def execAdcAMemIy (d : Byte) (s : State) : Result := .next (aluMemIdx .adc .iy d s)

/-- ADC A,IYH (R222). -/
def execAdcAIyh (s : State) : Result := .next (aluHalf .adc .iy .xh s)

/-- ADC A,IYL (R222). -/
def execAdcAIyl (s : State) : Result := .next (aluHalf .adc .iy .xl s)

/-- SUB (IY+d) (R223). -/
def execSubMemIy (d : Byte) (s : State) : Result := .next (aluMemIdx .sub .iy d s)

/-- SUB IYH (R223). -/
def execSubIyh (s : State) : Result := .next (aluHalf .sub .iy .xh s)

/-- SUB IYL (R223). -/
def execSubIyl (s : State) : Result := .next (aluHalf .sub .iy .xl s)

/-- SBC A,(IY+d) (R224). -/
def execSbcAMemIy (d : Byte) (s : State) : Result := .next (aluMemIdx .sbc .iy d s)

/-- SBC A,IYH (R224). -/
def execSbcAIyh (s : State) : Result := .next (aluHalf .sbc .iy .xh s)

/-- SBC A,IYL (R224). -/
def execSbcAIyl (s : State) : Result := .next (aluHalf .sbc .iy .xl s)

/-- AND (IY+d) (R225). -/
def execAndMemIy (d : Byte) (s : State) : Result := .next (aluMemIdx .and .iy d s)

/-- AND IYH (R225). -/
def execAndIyh (s : State) : Result := .next (aluHalf .and .iy .xh s)

/-- AND IYL (R225). -/
def execAndIyl (s : State) : Result := .next (aluHalf .and .iy .xl s)

/-- XOR (IY+d) (R226). -/
def execXorMemIy (d : Byte) (s : State) : Result := .next (aluMemIdx .xor .iy d s)

/-- XOR IYH (R226). -/
def execXorIyh (s : State) : Result := .next (aluHalf .xor .iy .xh s)

/-- XOR IYL (R226). -/
def execXorIyl (s : State) : Result := .next (aluHalf .xor .iy .xl s)

/-- OR (IY+d) (R227). -/
def execOrMemIy (d : Byte) (s : State) : Result := .next (aluMemIdx .or .iy d s)

/-- OR IYH (R227). -/
def execOrIyh (s : State) : Result := .next (aluHalf .or .iy .xh s)

/-- OR IYL (R227). -/
def execOrIyl (s : State) : Result := .next (aluHalf .or .iy .xl s)

/-- CP (IY+d) (R228). -/
def execCpMemIy (d : Byte) (s : State) : Result := .next (aluMemIdx .cp .iy d s)

/-- CP IYH (R228). -/
def execCpIyh (s : State) : Result := .next (aluHalf .cp .iy .xh s)

/-- CP IYL (R228). -/
def execCpIyl (s : State) : Result := .next (aluHalf .cp .iy .xl s)

end Sys2Proof.Machine
end

