-- ==== Sys2Proof/Machine/Bit.lean ====
section
/-! DEFINITION. 46_bit.md: bit test, set and reset. The shared operations, then one meaning per instruction. -/

namespace Sys2Proof.Machine

/-- `BIT b,r` (R310): Y and X from the register. -/
def bitReg (b : BitVec 3) (rr : Reg8) (s : State) : State :=
  s.fetchPrefixed.setF (bitFlags s.f b (s.r8 rr) (s.r8 rr))

/-- `BIT b,(HL)` (R311): Y and X from the high byte of `MW`. -/
def bitMemHl (b : BitVec 3) (s : State) : State :=
  ((s.fetchPrefixed.readCycle s.hl).tick 1).setF (bitFlags s.f b (s.peek s.hl) (hi s.mw))

/-- `BIT b,(XY+d)` (R312): Y and X from the high byte of the address. The Cycles line adds up to 19 of its 20 tacts; the
missing internal tact follows the read, as in R311 (DEDUCED, log 23). -/
def bitMemIdx (k : Idx) (b : BitVec 3) (d : Byte) (s : State) : State :=
  let x := s.idxAddr k d
  (((s.fetchIdxCb.readCycle x).tick 1).setF (bitFlags s.f b (s.peek x) (hi x))).setMw x

/-- BIT b,(HL) (R311). -/
def execBitMemHl (b : BitVec 3) (s : State) : Result := .next (bitMemHl b s)

/-- BIT b,r (R310). -/
def execBitR (b : BitVec 3) (rr : Reg8) (s : State) : Result := .next (bitReg b rr s)

/-- RES b,(HL) (R317). -/
def execResMemHl (b : BitVec 3) (s : State) : Result := .next (modifyMem s.hl (res8 b s.f) s.fetchPrefixed)

/-- RES b,r (R316). -/
def execResR (b : BitVec 3) (rr : Reg8) (s : State) : Result :=
  .next (s.fetchPrefixed.setR8 rr (res8 b s.f (s.r8 rr)).1)

/-- SET b,(HL) (R314). -/
def execSetMemHl (b : BitVec 3) (s : State) : Result := .next (modifyMem s.hl (set8 b s.f) s.fetchPrefixed)

/-- SET b,r (R313). -/
def execSetR (b : BitVec 3) (rr : Reg8) (s : State) : Result :=
  .next (s.fetchPrefixed.setR8 rr (set8 b s.f (s.r8 rr)).1)

/-- BIT b,(IX+d), bits 2:0 of the final byte = z (110 documented) (R312). -/
def execBitMemIx (b : BitVec 3) (_z : BitVec 3) (d : Byte) (s : State) : Result := .next (bitMemIdx .ix b d s)

/-- RES b,(IX+d) (R318). -/
def execResMemIx (b : BitVec 3) (d : Byte) (s : State) : Result := .next (modifyIdxCb .ix d (res8 b s.f) s)

/-- LD r,RES b,(IX+d) (R318). -/
def execLdRResMemIx (rr : Reg8) (b : BitVec 3) (d : Byte) (s : State) : Result :=
  .next (modifyIdxCbCopy .ix d (res8 b s.f) rr s)

/-- SET b,(IX+d) (R315). -/
def execSetMemIx (b : BitVec 3) (d : Byte) (s : State) : Result := .next (modifyIdxCb .ix d (set8 b s.f) s)

/-- LD r,SET b,(IX+d) (R315). -/
def execLdRSetMemIx (rr : Reg8) (b : BitVec 3) (d : Byte) (s : State) : Result :=
  .next (modifyIdxCbCopy .ix d (set8 b s.f) rr s)

/-- BIT b,(IY+d), bits 2:0 of the final byte = z (110 documented) (R312). -/
def execBitMemIy (b : BitVec 3) (_z : BitVec 3) (d : Byte) (s : State) : Result := .next (bitMemIdx .iy b d s)

/-- RES b,(IY+d) (R318). -/
def execResMemIy (b : BitVec 3) (d : Byte) (s : State) : Result := .next (modifyIdxCb .iy d (res8 b s.f) s)

/-- LD r,RES b,(IY+d) (R318). -/
def execLdRResMemIy (rr : Reg8) (b : BitVec 3) (d : Byte) (s : State) : Result :=
  .next (modifyIdxCbCopy .iy d (res8 b s.f) rr s)

/-- SET b,(IY+d) (R315). -/
def execSetMemIy (b : BitVec 3) (d : Byte) (s : State) : Result := .next (modifyIdxCb .iy d (set8 b s.f) s)

/-- LD r,SET b,(IY+d) (R315). -/
def execLdRSetMemIy (rr : Reg8) (b : BitVec 3) (d : Byte) (s : State) : Result :=
  .next (modifyIdxCbCopy .iy d (set8 b s.f) rr s)

end Sys2Proof.Machine
end

