-- ==== Sys2Proof/Machine/Control.lean ====
section
/-! DEFINITION. 47_control.md: jumps, calls and returns. The shared operations, then one meaning per instruction. -/

namespace Sys2Proof.Machine

/-- `JR cc,e` (R333). -/
def jumpRelativeIf (cc : Cond) (e : Byte) (s : State) : State :=
  if s.cond cc then s.fetchOpcode.fetchByte.jumpRelative e else s.fetchOpcode.fetchByte

/-- `DJNZ e` (R336). -/
def countAndJump (e : Byte) (s : State) : State :=
  let t := (s.fetchOpcode.tick 1).fetchByte.setB (s.b - 1)
  if s.b - 1 = 0 then t else t.jumpRelative e

/-- `JP cc,nn` (R331): `MW` is written either way. -/
def jumpIf (cc : Cond) (nn : Word) (s : State) : State :=
  let t := s.fetchOpcode.fetchByte.fetchByte.setMw nn
  if s.cond cc then t.setPc nn else t

/-- A call to `x` with `PC` as the return address, after the fetches in `t` (R337, R343). -/
def callTo (x : Word) (t : State) : State := ((t.tick 1).push t.pc).enterAt x

/-- `CALL cc,nn` (R338): `MW` is written either way. -/
def callIf (cc : Cond) (nn : Word) (s : State) : State :=
  let t := s.fetchOpcode.fetchByte.fetchByte
  if s.cond cc then callTo nn t else t.setMw nn

/-- `RET cc` (R340). -/
def returnIf (cc : Cond) (s : State) : State :=
  let t := s.fetchOpcode.tick 1
  if s.cond cc then t.returnFromStack else t

/-- DJNZ e (R336). -/
def execDjnz (e : Byte) (s : State) : Result := .next (countAndJump e s)

/-- JR e (R332). -/
def execJr (e : Byte) (s : State) : Result := .next ((s.fetchOpcode.fetchByte).jumpRelative e)

/-- JR cc,e (NZ, Z, NC, C) (R333). -/
def execJrCc (cc : Cond) (e : Byte) (s : State) : Result := .next (jumpRelativeIf cc e s)

/-- RET cc (R340). -/
def execRetCc (cc : Cond) (s : State) : Result := .next (returnIf cc s)

/-- RET (R339). -/
def execRet (s : State) : Result := .next (s.fetchOpcode.returnFromStack)

/-- JP (HL) (R334). -/
def execJpHl (s : State) : Result := .next (s.fetchOpcode.setPc s.hl)

/-- JP cc,nn (R331). -/
def execJpCcNn (cc : Cond) (nn : Word) (s : State) : Result := .next (jumpIf cc nn s)

/-- JP nn (R330). -/
def execJpNn (nn : Word) (s : State) : Result := .next (s.fetchOpcode.fetchByte.fetchByte.enterAt nn)

/-- CALL cc,nn (R338). -/
def execCallCcNn (cc : Cond) (nn : Word) (s : State) : Result := .next (callIf cc nn s)

/-- CALL nn (R337). -/
def execCallNn (nn : Word) (s : State) : Result := .next (callTo nn s.fetchOpcode.fetchByte.fetchByte)

/-- RST p, the target being 8 * t (R343). -/
def execRstP (t : BitVec 3) (s : State) : Result := .next (callTo (t.setWidth 16 <<< 3) s.fetchOpcode)

/-- RETI (R341). -/
def execReti (s : State) : Result := .next (returnFromInterrupt s)

/-- RETN, opcode bits 5:3 = copy (000 documented, 001 is RETI) (R342). -/
def execRetn (_copy : BitVec 3) (s : State) : Result := .next (returnFromInterrupt s)

/-- JP (IX) (R335). -/
def execJpIx (s : State) : Result := .next (s.fetchPrefixed.setPc (s.xy .ix))

/-- JP (IY) (R335). -/
def execJpIy (s : State) : Result := .next (s.fetchPrefixed.setPc (s.xy .iy))

end Sys2Proof.Machine
end

