-- ==== Sys2Proof/Machine/CpuControl.lean ====
section
/-! DEFINITION. 49_cpu_control.md: CPU control, interrupt modes, redundant prefixes. The shared operations, then one meaning per instruction. -/

namespace Sys2Proof.Machine

/-- The operation of HALT after its fetch (R381). -/
def enterHalt (t : State) : State :=
  { t with halted := true, pc := if t.cfg.haltPc = .self then t.pc - 1 else t.pc }

/-- NOP (R380). -/
def execNop (s : State) : Result := .next (s.fetchOpcode)

/-- HALT (R381). -/
def execHalt (s : State) : Result := .next (enterHalt s.fetchOpcode)

/-- DI (R382). -/
def execDi (s : State) : Result := .next (s.fetchOpcode.setIff false false)

/-- EI (R383). -/
def execEi (s : State) : Result := .next ((s.fetchOpcode.setIff true true).blockInt)

/-- IM 0, opcode bits 5 and 3 free (R384). -/
def execIm0 (_b5 : Bool) (_b3 : Bool) (s : State) : Result := .next (s.fetchPrefixed.setIm .im0)

/-- IM 1, opcode bit 5 free (R385). -/
def execIm1 (_b5 : Bool) (s : State) : Result := .next (s.fetchPrefixed.setIm .im1)

/-- IM 2, opcode bit 5 free (R386). -/
def execIm2 (_b5 : Bool) (s : State) : Result := .next (s.fetchPrefixed.setIm .im2)

/-- an undefined ED opcode, the second byte being op (R388). -/
def execNopEd (_op : Byte) (s : State) : Result := .next (s.fetchPrefixed)

/-- the redundant IX prefix byte before DD; one byte, the second is only looked at (R387). -/
def execRedundantIxDd (s : State) : Result := .next (s.fetchOpcode.blockInt)

/-- the redundant IX prefix byte before FD; one byte, the second is only looked at (R387). -/
def execRedundantIxFd (s : State) : Result := .next (s.fetchOpcode.blockInt)

/-- the redundant IX prefix byte before ED; one byte, the second is only looked at (R387). -/
def execRedundantIxEd (s : State) : Result := .next (s.fetchOpcode.blockInt)

/-- HALT under an ignored IX prefix (R389). -/
def execHaltIx (s : State) : Result := .next (enterHalt s.fetchPrefixed)

/-- the redundant IY prefix byte before DD; one byte, the second is only looked at (R387). -/
def execRedundantIyDd (s : State) : Result := .next (s.fetchOpcode.blockInt)

/-- the redundant IY prefix byte before FD; one byte, the second is only looked at (R387). -/
def execRedundantIyFd (s : State) : Result := .next (s.fetchOpcode.blockInt)

/-- the redundant IY prefix byte before ED; one byte, the second is only looked at (R387). -/
def execRedundantIyEd (s : State) : Result := .next (s.fetchOpcode.blockInt)

/-- HALT under an ignored IY prefix (R389). -/
def execHaltIy (s : State) : Result := .next (enterHalt s.fetchPrefixed)

end Sys2Proof.Machine
end

