-- ==== Sys2Proof/Machine/Exchange.lean ====
section
/-! DEFINITION. 42_exchange_block.md: exchanges, block transfer and block search. The shared operations, then one meaning per instruction. -/

namespace Sys2Proof.Machine

/-- `EX AF,AF'` (R191). -/
def exchangeAf (s : State) : State := { s.fetchOpcode.setAf s.afAlt with afAlt := s.af }

/-- `EXX` (R192). -/
def exchangeSets (s : State) : State :=
  { ((s.fetchOpcode.setBc s.bcAlt).setDe s.deAlt).setHl s.hlAlt with bcAlt := s.bc, deAlt := s.de, hlAlt := s.hl }

/-- The memory half of `EX (SP),rr` (R193, R194): the word on top of the stack is replaced by `v`, and `MW` takes the old
one; the caller writes it to the register. -/
def exchangeTop (v : Word) (t : State) : State :=
  (((((t.readCycle t.sp).readCycle (t.sp + 1)).tick 1).writeByte (t.sp + 1) (hi v)).writeByte t.sp (lo v)).tick 2
    |>.setMw t.topWord

/-- One block transfer (R196, R198), `step` being 1 or -1. -/
def blockLoad (step : Word) (s : State) : State :=
  let v := s.peek s.hl
  let t := ((s.fetchPrefixed.readCycle s.hl).writeByte s.de v).tick 2
  (((t.setHl (s.hl + step)).setDe (s.de + step)).setBc (s.bc - 1)).setF (transferFlags s.f s.a v (s.bc - 1))

/-- One iteration of a repeated block transfer (R195, R197, R199). -/
def blockLoadRepeat (step : Word) (s : State) : State :=
  let t := blockLoad step s
  if s.bc - 1 = 0 then t else ((t.tick 5).setPc s.pc).setMw (s.pc + 1)

/-- One block search (R200, R202). -/
def blockCompare (step : Word) (s : State) : State :=
  let v := s.peek s.hl
  let t := (s.fetchPrefixed.readCycle s.hl).tick 5
  (((t.setHl (s.hl + step)).setBc (s.bc - 1)).setMw (s.mw + step)).setF (searchFlags s.f s.a v (s.bc - 1))

/-- One iteration of a repeated block search (R195, R201, R203): it ends on a match too. -/
def blockCompareRepeat (step : Word) (s : State) : State :=
  let t := blockCompare step s
  if s.bc - 1 = 0 ∨ s.a - s.peek s.hl = 0 then t else ((t.tick 5).setPc s.pc).setMw (s.pc + 1)

/-- EX AF,AF' (R191). -/
def execExAfAf (s : State) : Result := .next (exchangeAf s)

/-- EXX (R192). -/
def execExx (s : State) : Result := .next (exchangeSets s)

/-- EX (SP),HL (R193). -/
def execExSpHl (s : State) : Result := .next ((exchangeTop s.hl s.fetchOpcode).setPair .hl s.topWord)

/-- EX DE,HL (R190). -/
def execExDeHl (s : State) : Result := .next ((s.fetchOpcode.setPair .de s.hl).setPair .hl s.de)

/-- LDI (R196). -/
def execLdi (s : State) : Result := .next (blockLoad 1 s)

/-- CPI (R200). -/
def execCpi (s : State) : Result := .next (blockCompare 1 s)

/-- LDD (R198). -/
def execLdd (s : State) : Result := .next (blockLoad (-1) s)

/-- CPD (R202). -/
def execCpd (s : State) : Result := .next (blockCompare (-1) s)

/-- LDIR (R197). -/
def execLdir (s : State) : Result := .next (blockLoadRepeat 1 s)

/-- CPIR (R201). -/
def execCpir (s : State) : Result := .next (blockCompareRepeat 1 s)

/-- LDDR (R199). -/
def execLddr (s : State) : Result := .next (blockLoadRepeat (-1) s)

/-- CPDR (R203). -/
def execCpdr (s : State) : Result := .next (blockCompareRepeat (-1) s)

/-- EX (SP),IX (R194). -/
def execExSpIx (s : State) : Result := .next ((exchangeTop (s.xy .ix) s.fetchPrefixed).setXy .ix s.topWord)

/-- EX (SP),IY (R194). -/
def execExSpIy (s : State) : Result := .next ((exchangeTop (s.xy .iy) s.fetchPrefixed).setXy .iy s.topWord)

end Sys2Proof.Machine
end

