-- ==== Sys2Proof/Machine/Io.lean ====
section
/-! DEFINITION. 48_io.md: input and output. The shared operations, then one meaning per instruction. -/

namespace Sys2Proof.Machine

/-- `OUT (n),A` (R363): `MW`'s low byte wraps without a carry. -/
def portOutImm (n : Byte) (s : State) : State :=
  (s.fetchOpcode.fetchByte.portOut (mkWord s.a n) s.a).setMw (mkWord s.a (n + 1))

/-- `IN A,(n)` (R360): no flag. -/
def portInImm (n : Byte) (s : State) : State :=
  let t := s.fetchOpcode.fetchByte
  let p := mkWord s.a n
  ((t.portInCycle p).setA (t.portIn p)).setMw (p + 1)

/-- `IN (C)` (R362): the flags of R361 and no register. -/
def portInFlags (s : State) : State :=
  let t := s.fetchPrefixed
  ((t.portInCycle s.bc).setF (parityFlags s.f (t.portIn s.bc))).setMw (s.bc + 1)

/-- `IN r,(C)` (R361). -/
def portInReg (rr : Reg8) (s : State) : State :=
  let t := s.fetchPrefixed
  (((t.portInCycle s.bc).setR8 rr (t.portIn s.bc)).setF (parityFlags s.f (t.portIn s.bc))).setMw (s.bc + 1)

/-- `OUT (C),r` and `OUT (C),0` (R364, R365). -/
def portOutBc (v : Byte) (s : State) : State := (s.fetchPrefixed.portOut s.bc v).setMw (s.bc + 1)

/-- One block input (R367, R369), `step` being 1 or -1: the port and `MW` use `B` before the decrement. -/
def blockIn (step : Word) (s : State) : State :=
  let t := s.fetchPrefixed.tick 1
  let v := t.portIn s.bc
  let u := (t.portInCycle s.bc).writeByte s.hl v
  (((u.setMw (s.bc + step)).setB (s.b - 1)).setHl (s.hl + step)).setF
    (blockIoFlags (s.b - 1) v (v.toNat + (s.c + lo step).toNat))

/-- One block output (R371, R373): the port and `MW` use `B` after the decrement, the flags `L` after the step. -/
def blockOut (step : Word) (s : State) : State :=
  let v := s.peek s.hl
  let p := mkWord (s.b - 1) s.c
  let u := ((s.fetchPrefixed.tick 1).readCycle s.hl).portOut p v
  (((u.setMw (p + step)).setB (s.b - 1)).setHl (s.hl + step)).setF
    (blockIoFlags (s.b - 1) v (v.toNat + (lo (s.hl + step)).toNat))

/-- The repeat of a block I/O instruction after its iteration `t` (R195, R368): `MW` stays. -/
def blockIoRepeat (pc0 : Word) (t : State) : State :=
  if t.b = 0 then t else (t.tick 5).setPc pc0

/-- OUT (n),A (R363). -/
def execOutNA (n : Byte) (s : State) : Result := .next (portOutImm n s)

/-- IN A,(n) (R360). -/
def execInAN (n : Byte) (s : State) : Result := .next (portInImm n s)

/-- IN (C) (R362). -/
def execInC (s : State) : Result := .next (portInFlags s)

/-- IN r,(C) (R361). -/
def execInRC (rr : Reg8) (s : State) : Result := .next (portInReg rr s)

/-- OUT (C),0 (R365). -/
def execOutC0 (s : State) : Result := .next (portOutBc 0 s)

/-- OUT (C),r (R364). -/
def execOutCR (rr : Reg8) (s : State) : Result := .next (portOutBc (s.r8 rr) s)

/-- INI (R367). -/
def execIni (s : State) : Result := .next (blockIn 1 s)

/-- OUTI (R371). -/
def execOuti (s : State) : Result := .next (blockOut 1 s)

/-- IND (R369). -/
def execInd (s : State) : Result := .next (blockIn (-1) s)

/-- OUTD (R373). -/
def execOutd (s : State) : Result := .next (blockOut (-1) s)

/-- INIR (R368). -/
def execInir (s : State) : Result := .next (blockIoRepeat s.pc (blockIn 1 s))

/-- OTIR (R372). -/
def execOtir (s : State) : Result := .next (blockIoRepeat s.pc (blockOut 1 s))

/-- INDR (R370). -/
def execIndr (s : State) : Result := .next (blockIoRepeat s.pc (blockIn (-1) s))

/-- OTDR (R374). -/
def execOtdr (s : State) : Result := .next (blockIoRepeat s.pc (blockOut (-1) s))

end Sys2Proof.Machine
end

