-- ==== Sys2Proof/Machine/Load16.lean ====
section
/-! DEFINITION. 41_load16.md: the 16-bit loads, push and pop. The shared operations, then one meaning per instruction. -/

namespace Sys2Proof.Machine

/-- The two reads of a word at `nn`, low byte first, with `MW <- nn + 1` (R162 to R164); the value is `peekWord nn`. -/
def loadWordCycles (nn : Word) (t : State) : State := ((t.readCycle nn).readCycle (nn + 1)).setMw (nn + 1)

/-- A store of a word at `nn`, low byte first, with `MW <- nn + 1` (R165 to R167). -/
def storeWord (nn w : Word) (t : State) : State :=
  ((t.writeByte nn (lo w)).writeByte (nn + 1) (hi w)).setMw (nn + 1)

/-- LD dd,nn (R160). -/
def execLdDdNn (dd : Pair) (nn : Word) (s : State) : Result := .next (s.fetchOpcode.fetchByte.fetchByte.setPair dd nn)

/-- LD (nn),HL (R165). -/
def execLdMemNnHl (nn : Word) (s : State) : Result := .next (storeWord nn s.hl s.fetchOpcode.fetchByte.fetchByte)

/-- LD HL,(nn) (R162). -/
def execLdHlMemNn (nn : Word) (s : State) : Result :=
  .next ((loadWordCycles nn s.fetchOpcode.fetchByte.fetchByte).setPair .hl (s.peekWord nn))

/-- POP qq (R172). -/
def execPopQq (qq : PairQ) (s : State) : Result := .next ((s.fetchOpcode.popCycles).setPairQ qq s.topWord)

/-- LD SP,HL (R168). -/
def execLdSpHl (s : State) : Result := .next ((s.fetchOpcode.tick 2).setSp s.hl)

/-- PUSH qq (R170). -/
def execPushQq (qq : PairQ) (s : State) : Result := .next ((s.fetchOpcode.tick 1).push (s.pairQ qq))

/-- LD (nn),dd (R166). -/
def execLdMemNnDd (dd : Pair) (nn : Word) (s : State) : Result :=
  .next (storeWord nn (s.pair dd) s.fetchPrefixed.fetchByte.fetchByte)

/-- LD dd,(nn) (R163). -/
def execLdDdMemNn (dd : Pair) (nn : Word) (s : State) : Result :=
  .next ((loadWordCycles nn s.fetchPrefixed.fetchByte.fetchByte).setPair dd (s.peekWord nn))

/-- LD IX,nn (R161). -/
def execLdIxNn (nn : Word) (s : State) : Result := .next (s.fetchPrefixed.fetchByte.fetchByte.setXy .ix nn)

/-- LD (nn),IX (R167). -/
def execLdMemNnIx (nn : Word) (s : State) : Result :=
  .next (storeWord nn (s.xy .ix) s.fetchPrefixed.fetchByte.fetchByte)

/-- LD IX,(nn) (R164). -/
def execLdIxMemNn (nn : Word) (s : State) : Result :=
  .next ((loadWordCycles nn s.fetchPrefixed.fetchByte.fetchByte).setXy .ix (s.peekWord nn))

/-- POP IX (R173). -/
def execPopIx (s : State) : Result := .next ((s.fetchPrefixed.popCycles).setXy .ix s.topWord)

/-- PUSH IX (R171). -/
def execPushIx (s : State) : Result := .next ((s.fetchPrefixed.tick 1).push (s.xy .ix))

/-- LD SP,IX (R169). -/
def execLdSpIx (s : State) : Result := .next ((s.fetchPrefixed.tick 2).setSp (s.xy .ix))

/-- LD IY,nn (R161). -/
def execLdIyNn (nn : Word) (s : State) : Result := .next (s.fetchPrefixed.fetchByte.fetchByte.setXy .iy nn)

/-- LD (nn),IY (R167). -/
def execLdMemNnIy (nn : Word) (s : State) : Result :=
  .next (storeWord nn (s.xy .iy) s.fetchPrefixed.fetchByte.fetchByte)

/-- LD IY,(nn) (R164). -/
def execLdIyMemNn (nn : Word) (s : State) : Result :=
  .next ((loadWordCycles nn s.fetchPrefixed.fetchByte.fetchByte).setXy .iy (s.peekWord nn))

/-- POP IY (R173). -/
def execPopIy (s : State) : Result := .next ((s.fetchPrefixed.popCycles).setXy .iy s.topWord)

/-- PUSH IY (R171). -/
def execPushIy (s : State) : Result := .next ((s.fetchPrefixed.tick 1).push (s.xy .iy))

/-- LD SP,IY (R169). -/
def execLdSpIy (s : State) : Result := .next ((s.fetchPrefixed.tick 2).setSp (s.xy .iy))

end Sys2Proof.Machine
end

