-- ==== Sys2Proof/Machine/Load8.lean ====
section
/-! DEFINITION. 40_load8.md: the 8-bit loads. The shared operations, then one meaning per instruction. -/

namespace Sys2Proof.Machine

/-- A store of `A` (R141 to R143): `M[x] <- A; MW <- A ++ ((x + 1)[7:0])`, after the fetches in `t`. -/
def storeA (x : Word) (t : State) : State := (t.writeByte x t.a).setMw (mkWord t.a (lo (x + 1)))

/-- A load of `A` (R138 to R140): `A <- M[x]; MW <- x + 1`, after the fetches in `t`. -/
def loadA (x : Word) (t : State) : State := ((t.readCycle x).setA (t.peek x)).setMw (x + 1)

/-- `A <- v` from `I` or `R`, with its flags (R144, R145). -/
def loadSpecial (v : Byte) (s : State) : State :=
  ((s.fetchPrefixed.tick 1).setA v).setF (specialFlags s.f v s.iff2)

/-- `LD r,(XY+d)` (R133). -/
def loadIdxReg (k : Idx) (rr : Reg8) (d : Byte) (s : State) : State :=
  let x := s.idxAddr k d
  ((s.fetchIndexed.readCycle x).setMw x).setR8 rr (s.peek x)

/-- `LD (XY+d),r` (R135). -/
def storeIdxReg (k : Idx) (d : Byte) (rr : Reg8) (s : State) : State :=
  let x := s.idxAddr k d
  (s.fetchIndexed.writeByte x (s.r8 rr)).setMw x

/-- `LD (XY+d),n` (R137): the address addition overlaps the fetch of `n`. -/
def storeIdxImm (k : Idx) (d n : Byte) (s : State) : State :=
  let x := s.idxAddr k d
  ((s.fetchPrefixed.fetchByte.fetchByte.tick 2).writeByte x n).setMw x

/-- LD (BC),A (R141). -/
def execLdMemBcA (s : State) : Result := .next (storeA s.bc s.fetchOpcode)

/-- LD (DE),A (R142). -/
def execLdMemDeA (s : State) : Result := .next (storeA s.de s.fetchOpcode)

/-- LD (nn),A (R143). -/
def execLdMemNnA (nn : Word) (s : State) : Result := .next (storeA nn s.fetchOpcode.fetchByte.fetchByte)

/-- LD A,(BC) (R138). -/
def execLdAMemBc (s : State) : Result := .next (loadA s.bc s.fetchOpcode)

/-- LD A,(DE) (R139). -/
def execLdAMemDe (s : State) : Result := .next (loadA s.de s.fetchOpcode)

/-- LD A,(nn) (R140). -/
def execLdAMemNn (nn : Word) (s : State) : Result := .next (loadA nn s.fetchOpcode.fetchByte.fetchByte)

/-- LD (HL),n (R136). -/
def execLdMemHlN (n : Byte) (s : State) : Result := .next (s.fetchOpcode.fetchByte.writeByte s.hl n)

/-- LD r,n (R131). -/
def execLdRN (rr : Reg8) (n : Byte) (s : State) : Result := .next (s.fetchOpcode.fetchByte.setR8 rr n)

/-- LD (HL),r (R134). -/
def execLdMemHlR (rr : Reg8) (s : State) : Result := .next (s.fetchOpcode.writeByte s.hl (s.r8 rr))

/-- LD r,(HL) (R132). -/
def execLdRMemHl (rr : Reg8) (s : State) : Result := .next ((s.fetchOpcode.readCycle s.hl).setR8 rr (s.peek s.hl))

/-- LD r,r' (R130). -/
def execLdRR (rd : Reg8) (rs : Reg8) (s : State) : Result := .next (s.fetchOpcode.setR8 rd (s.r8 rs))

/-- LD I,A (R146). -/
def execLdIA (s : State) : Result := .next ((s.fetchPrefixed.tick 1).setI s.a)

/-- LD R,A (R147). -/
def execLdRefreshA (s : State) : Result := .next ((s.fetchPrefixed.tick 1).setR s.a)

/-- LD A,I (R144). -/
def execLdAI (s : State) : Result := .next (loadSpecial s.i s)

/-- LD A,R (R145). -/
def execLdARefresh (s : State) : Result := .next (loadSpecial s.fetchPrefixed.r s)

/-- LD IXH,n (R149). -/
def execLdIxhN (n : Byte) (s : State) : Result := .next (s.fetchPrefixed.fetchByte.setRx .ix .xh n)

/-- LD IXL,n (R149). -/
def execLdIxlN (n : Byte) (s : State) : Result := .next (s.fetchPrefixed.fetchByte.setRx .ix .xl n)

/-- LD (IX+d),n (R137). -/
def execLdMemIxN (d : Byte) (n : Byte) (s : State) : Result := .next (storeIdxImm .ix d n s)

/-- LD (IX+d),r (R135). -/
def execLdMemIxR (d : Byte) (rr : Reg8) (s : State) : Result := .next (storeIdxReg .ix d rr s)

/-- LD r,(IX+d) (R133). -/
def execLdRMemIx (rr : Reg8) (d : Byte) (s : State) : Result := .next (loadIdxReg .ix rr d s)

/-- LD IXH,r (r from B, C, D, E, IXH, IXL, A) (R148). -/
def execLdIxhR (rx : RegX) (s : State) : Result := .next (s.fetchPrefixed.setRx .ix .xh (s.rx .ix rx))

/-- LD IXL,r (r from B, C, D, E, IXH, IXL, A) (R148). -/
def execLdIxlR (rx : RegX) (s : State) : Result := .next (s.fetchPrefixed.setRx .ix .xl (s.rx .ix rx))

/-- LD r,IXH (r from B, C, D, E, A) (R148). -/
def execLdRIxh (rr : Reg8) (s : State) : Result := .next (s.fetchPrefixed.setR8 rr (s.rx .ix .xh))

/-- LD r,IXL (r from B, C, D, E, A) (R148). -/
def execLdRIxl (rr : Reg8) (s : State) : Result := .next (s.fetchPrefixed.setR8 rr (s.rx .ix .xl))

/-- LD IYH,n (R149). -/
def execLdIyhN (n : Byte) (s : State) : Result := .next (s.fetchPrefixed.fetchByte.setRx .iy .xh n)

/-- LD IYL,n (R149). -/
def execLdIylN (n : Byte) (s : State) : Result := .next (s.fetchPrefixed.fetchByte.setRx .iy .xl n)

/-- LD (IY+d),n (R137). -/
def execLdMemIyN (d : Byte) (n : Byte) (s : State) : Result := .next (storeIdxImm .iy d n s)

/-- LD (IY+d),r (R135). -/
def execLdMemIyR (d : Byte) (rr : Reg8) (s : State) : Result := .next (storeIdxReg .iy d rr s)

/-- LD r,(IY+d) (R133). -/
def execLdRMemIy (rr : Reg8) (d : Byte) (s : State) : Result := .next (loadIdxReg .iy rr d s)

/-- LD IYH,r (r from B, C, D, E, IYH, IYL, A) (R148). -/
def execLdIyhR (rx : RegX) (s : State) : Result := .next (s.fetchPrefixed.setRx .iy .xh (s.rx .iy rx))

/-- LD IYL,r (r from B, C, D, E, IYH, IYL, A) (R148). -/
def execLdIylR (rx : RegX) (s : State) : Result := .next (s.fetchPrefixed.setRx .iy .xl (s.rx .iy rx))

/-- LD r,IYH (r from B, C, D, E, A) (R148). -/
def execLdRIyh (rr : Reg8) (s : State) : Result := .next (s.fetchPrefixed.setR8 rr (s.rx .iy .xh))

/-- LD r,IYL (r from B, C, D, E, A) (R148). -/
def execLdRIyl (rr : Reg8) (s : State) : Result := .next (s.fetchPrefixed.setR8 rr (s.rx .iy .xl))

end Sys2Proof.Machine
end

