-- ==== Sys2Proof/Machine/Rotate.lean ====
section
/-! DEFINITION. 45_rotate_shift.md: rotates and shifts. The shared operations, then one meaning per instruction. -/

namespace Sys2Proof.Machine

/-- An accumulator rotate (R280 to R283). -/
def rotateAcc (op : RotOp) (s : State) : State :=
  let p := rotA8 op s.a s.f
  (s.fetchOpcode.setA p.1).setF p.2

/-- The form `r` of R284. -/
def rotateReg (op : RotOp) (rr : Reg8) (s : State) : State :=
  let p := rot8 op s.f (s.r8 rr)
  (s.fetchPrefixed.setR8 rr p.1).setF p.2

/-- `RLD` and `RRD` (R293, R294): `g` gives the new `A` and the new memory byte. -/
def rotateDigit (g : Byte → Byte → Byte × Byte) (s : State) : State :=
  let p := g s.a (s.peek s.hl)
  let t := ((s.fetchPrefixed.readCycle s.hl).tick 4).writeByte s.hl p.2
  ((t.setA p.1).setF (parityFlags s.f p.1)).setMw (s.hl + 1)

/-- RLCA (R280). -/
def execRlca (s : State) : Result := .next (rotateAcc .rlc s)

/-- RRCA (R282). -/
def execRrca (s : State) : Result := .next (rotateAcc .rrc s)

/-- RLA (R281). -/
def execRla (s : State) : Result := .next (rotateAcc .rl s)

/-- RRA (R283). -/
def execRra (s : State) : Result := .next (rotateAcc .rr s)

/-- RLC (HL) (R285). -/
def execRlcMemHl (s : State) : Result := .next (modifyMem s.hl (rot8 .rlc s.f) s.fetchPrefixed)

/-- RLC r (R285). -/
def execRlcR (rr : Reg8) (s : State) : Result := .next (rotateReg .rlc rr s)

/-- RRC (HL) (R286). -/
def execRrcMemHl (s : State) : Result := .next (modifyMem s.hl (rot8 .rrc s.f) s.fetchPrefixed)

/-- RRC r (R286). -/
def execRrcR (rr : Reg8) (s : State) : Result := .next (rotateReg .rrc rr s)

/-- RL (HL) (R287). -/
def execRlMemHl (s : State) : Result := .next (modifyMem s.hl (rot8 .rl s.f) s.fetchPrefixed)

/-- RL r (R287). -/
def execRlR (rr : Reg8) (s : State) : Result := .next (rotateReg .rl rr s)

/-- RR (HL) (R288). -/
def execRrMemHl (s : State) : Result := .next (modifyMem s.hl (rot8 .rr s.f) s.fetchPrefixed)

/-- RR r (R288). -/
def execRrR (rr : Reg8) (s : State) : Result := .next (rotateReg .rr rr s)

/-- SLA (HL) (R289). -/
def execSlaMemHl (s : State) : Result := .next (modifyMem s.hl (rot8 .sla s.f) s.fetchPrefixed)

/-- SLA r (R289). -/
def execSlaR (rr : Reg8) (s : State) : Result := .next (rotateReg .sla rr s)

/-- SRA (HL) (R290). -/
def execSraMemHl (s : State) : Result := .next (modifyMem s.hl (rot8 .sra s.f) s.fetchPrefixed)

/-- SRA r (R290). -/
def execSraR (rr : Reg8) (s : State) : Result := .next (rotateReg .sra rr s)

/-- SLL (HL) (R291). -/
def execSllMemHl (s : State) : Result := .next (modifyMem s.hl (rot8 .sll s.f) s.fetchPrefixed)

/-- SLL r (R291). -/
def execSllR (rr : Reg8) (s : State) : Result := .next (rotateReg .sll rr s)

/-- SRL (HL) (R292). -/
def execSrlMemHl (s : State) : Result := .next (modifyMem s.hl (rot8 .srl s.f) s.fetchPrefixed)

/-- SRL r (R292). -/
def execSrlR (rr : Reg8) (s : State) : Result := .next (rotateReg .srl rr s)

/-- RRD (R294). -/
def execRrd (s : State) : Result := .next (rotateDigit rrd8 s)

/-- RLD (R293). -/
def execRld (s : State) : Result := .next (rotateDigit rld8 s)

/-- RLC (IX+d) (R285). -/
def execRlcMemIx (d : Byte) (s : State) : Result := .next (modifyIdxCb .ix d (rot8 .rlc s.f) s)

/-- LD r,RLC (IX+d) (R285). -/
def execLdRRlcMemIx (rr : Reg8) (d : Byte) (s : State) : Result := .next (modifyIdxCbCopy .ix d (rot8 .rlc s.f) rr s)

/-- RRC (IX+d) (R286). -/
def execRrcMemIx (d : Byte) (s : State) : Result := .next (modifyIdxCb .ix d (rot8 .rrc s.f) s)

/-- LD r,RRC (IX+d) (R286). -/
def execLdRRrcMemIx (rr : Reg8) (d : Byte) (s : State) : Result := .next (modifyIdxCbCopy .ix d (rot8 .rrc s.f) rr s)

/-- RL (IX+d) (R287). -/
def execRlMemIx (d : Byte) (s : State) : Result := .next (modifyIdxCb .ix d (rot8 .rl s.f) s)

/-- LD r,RL (IX+d) (R287). -/
def execLdRRlMemIx (rr : Reg8) (d : Byte) (s : State) : Result := .next (modifyIdxCbCopy .ix d (rot8 .rl s.f) rr s)

/-- RR (IX+d) (R288). -/
def execRrMemIx (d : Byte) (s : State) : Result := .next (modifyIdxCb .ix d (rot8 .rr s.f) s)

/-- LD r,RR (IX+d) (R288). -/
def execLdRRrMemIx (rr : Reg8) (d : Byte) (s : State) : Result := .next (modifyIdxCbCopy .ix d (rot8 .rr s.f) rr s)

/-- SLA (IX+d) (R289). -/
def execSlaMemIx (d : Byte) (s : State) : Result := .next (modifyIdxCb .ix d (rot8 .sla s.f) s)

/-- LD r,SLA (IX+d) (R289). -/
def execLdRSlaMemIx (rr : Reg8) (d : Byte) (s : State) : Result := .next (modifyIdxCbCopy .ix d (rot8 .sla s.f) rr s)

/-- SRA (IX+d) (R290). -/
def execSraMemIx (d : Byte) (s : State) : Result := .next (modifyIdxCb .ix d (rot8 .sra s.f) s)

/-- LD r,SRA (IX+d) (R290). -/
def execLdRSraMemIx (rr : Reg8) (d : Byte) (s : State) : Result := .next (modifyIdxCbCopy .ix d (rot8 .sra s.f) rr s)

/-- SLL (IX+d) (R291). -/
def execSllMemIx (d : Byte) (s : State) : Result := .next (modifyIdxCb .ix d (rot8 .sll s.f) s)

/-- LD r,SLL (IX+d) (R291). -/
def execLdRSllMemIx (rr : Reg8) (d : Byte) (s : State) : Result := .next (modifyIdxCbCopy .ix d (rot8 .sll s.f) rr s)

/-- SRL (IX+d) (R292). -/
def execSrlMemIx (d : Byte) (s : State) : Result := .next (modifyIdxCb .ix d (rot8 .srl s.f) s)

/-- LD r,SRL (IX+d) (R292). -/
def execLdRSrlMemIx (rr : Reg8) (d : Byte) (s : State) : Result := .next (modifyIdxCbCopy .ix d (rot8 .srl s.f) rr s)

/-- RLC (IY+d) (R285). -/
def execRlcMemIy (d : Byte) (s : State) : Result := .next (modifyIdxCb .iy d (rot8 .rlc s.f) s)

/-- LD r,RLC (IY+d) (R285). -/
def execLdRRlcMemIy (rr : Reg8) (d : Byte) (s : State) : Result := .next (modifyIdxCbCopy .iy d (rot8 .rlc s.f) rr s)

/-- RRC (IY+d) (R286). -/
def execRrcMemIy (d : Byte) (s : State) : Result := .next (modifyIdxCb .iy d (rot8 .rrc s.f) s)

/-- LD r,RRC (IY+d) (R286). -/
def execLdRRrcMemIy (rr : Reg8) (d : Byte) (s : State) : Result := .next (modifyIdxCbCopy .iy d (rot8 .rrc s.f) rr s)

/-- RL (IY+d) (R287). -/
def execRlMemIy (d : Byte) (s : State) : Result := .next (modifyIdxCb .iy d (rot8 .rl s.f) s)

/-- LD r,RL (IY+d) (R287). -/
def execLdRRlMemIy (rr : Reg8) (d : Byte) (s : State) : Result := .next (modifyIdxCbCopy .iy d (rot8 .rl s.f) rr s)

/-- RR (IY+d) (R288). -/
def execRrMemIy (d : Byte) (s : State) : Result := .next (modifyIdxCb .iy d (rot8 .rr s.f) s)

/-- LD r,RR (IY+d) (R288). -/
def execLdRRrMemIy (rr : Reg8) (d : Byte) (s : State) : Result := .next (modifyIdxCbCopy .iy d (rot8 .rr s.f) rr s)

/-- SLA (IY+d) (R289). -/
def execSlaMemIy (d : Byte) (s : State) : Result := .next (modifyIdxCb .iy d (rot8 .sla s.f) s)

/-- LD r,SLA (IY+d) (R289). -/
def execLdRSlaMemIy (rr : Reg8) (d : Byte) (s : State) : Result := .next (modifyIdxCbCopy .iy d (rot8 .sla s.f) rr s)

/-- SRA (IY+d) (R290). -/
def execSraMemIy (d : Byte) (s : State) : Result := .next (modifyIdxCb .iy d (rot8 .sra s.f) s)

/-- LD r,SRA (IY+d) (R290). -/
def execLdRSraMemIy (rr : Reg8) (d : Byte) (s : State) : Result := .next (modifyIdxCbCopy .iy d (rot8 .sra s.f) rr s)

/-- SLL (IY+d) (R291). -/
def execSllMemIy (d : Byte) (s : State) : Result := .next (modifyIdxCb .iy d (rot8 .sll s.f) s)

/-- LD r,SLL (IY+d) (R291). -/
def execLdRSllMemIy (rr : Reg8) (d : Byte) (s : State) : Result := .next (modifyIdxCbCopy .iy d (rot8 .sll s.f) rr s)

/-- SRL (IY+d) (R292). -/
def execSrlMemIy (d : Byte) (s : State) : Result := .next (modifyIdxCb .iy d (rot8 .srl s.f) s)

/-- LD r,SRL (IY+d) (R292). -/
def execLdRSrlMemIy (rr : Reg8) (d : Byte) (s : State) : Result := .next (modifyIdxCbCopy .iy d (rot8 .srl s.f) rr s)

end Sys2Proof.Machine
end

