-- ==== Sys2Proof/Machine/Tables.lean ====
section
/-! DEFINITION. The tables an ignored index prefix and the prefix rows of the opcode table reach: every instruction that
begins with no ignored prefix, by its meaning. -/

namespace Sys2Proof.Machine

/-- The meaning of an instruction found behind a prefix (30_encoding.md R103). A prefix row or a second ignored prefix is
not found there: no bytes decode to one (log 12). -/
def runTable (j : Instr) (s : State) : Result :=
  match j with
  | .nop => execNop s
  | .exAfAf => execExAfAf s
  | .djnz e => execDjnz e s
  | .jr e => execJr e s
  | .jrCc cc e => execJrCc cc e s
  | .ldDdNn dd nn => execLdDdNn dd nn s
  | .addHlSs ss => execAddHlSs ss s
  | .ldMemBcA => execLdMemBcA s
  | .ldMemDeA => execLdMemDeA s
  | .ldMemNnHl nn => execLdMemNnHl nn s
  | .ldMemNnA nn => execLdMemNnA nn s
  | .ldAMemBc => execLdAMemBc s
  | .ldAMemDe => execLdAMemDe s
  | .ldHlMemNn nn => execLdHlMemNn nn s
  | .ldAMemNn nn => execLdAMemNn nn s
  | .incSs ss => execIncSs ss s
  | .decSs ss => execDecSs ss s
  | .incMemHl => execIncMemHl s
  | .decMemHl => execDecMemHl s
  | .ldMemHlN n => execLdMemHlN n s
  | .incR rr => execIncR rr s
  | .decR rr => execDecR rr s
  | .ldRN rr n => execLdRN rr n s
  | .rlca => execRlca s
  | .rrca => execRrca s
  | .rla => execRla s
  | .rra => execRra s
  | .daa => execDaa s
  | .cpl => execCpl s
  | .scf => execScf s
  | .ccf => execCcf s
  | .halt => execHalt s
  | .ldMemHlR rr => execLdMemHlR rr s
  | .ldRMemHl rr => execLdRMemHl rr s
  | .ldRR rd rs => execLdRR rd rs s
  | .addAMemHl => execAddAMemHl s
  | .addAR rr => execAddAR rr s
  | .adcAMemHl => execAdcAMemHl s
  | .adcAR rr => execAdcAR rr s
  | .subMemHl => execSubMemHl s
  | .subR rr => execSubR rr s
  | .sbcAMemHl => execSbcAMemHl s
  | .sbcAR rr => execSbcAR rr s
  | .andMemHl => execAndMemHl s
  | .andR rr => execAndR rr s
  | .xorMemHl => execXorMemHl s
  | .xorR rr => execXorR rr s
  | .orMemHl => execOrMemHl s
  | .orR rr => execOrR rr s
  | .cpMemHl => execCpMemHl s
  | .cpR rr => execCpR rr s
  | .retCc cc => execRetCc cc s
  | .popQq qq => execPopQq qq s
  | .ret => execRet s
  | .exx => execExx s
  | .jpHl => execJpHl s
  | .ldSpHl => execLdSpHl s
  | .jpCcNn cc nn => execJpCcNn cc nn s
  | .jpNn nn => execJpNn nn s
  | .cbPrefix => .refused .notAnInstruction
  | .outNA n => execOutNA n s
  | .inAN n => execInAN n s
  | .exSpHl => execExSpHl s
  | .exDeHl => execExDeHl s
  | .di => execDi s
  | .ei => execEi s
  | .callCcNn cc nn => execCallCcNn cc nn s
  | .pushQq qq => execPushQq qq s
  | .callNn nn => execCallNn nn s
  | .ddPrefix => .refused .notAnInstruction
  | .edPrefix => .refused .notAnInstruction
  | .fdPrefix => .refused .notAnInstruction
  | .addAN n => execAddAN n s
  | .adcAN n => execAdcAN n s
  | .subN n => execSubN n s
  | .sbcAN n => execSbcAN n s
  | .andN n => execAndN n s
  | .xorN n => execXorN n s
  | .orN n => execOrN n s
  | .cpN n => execCpN n s
  | .rstP t => execRstP t s
  | .rlcMemHl => execRlcMemHl s
  | .rlcR rr => execRlcR rr s
  | .rrcMemHl => execRrcMemHl s
  | .rrcR rr => execRrcR rr s
  | .rlMemHl => execRlMemHl s
  | .rlR rr => execRlR rr s
  | .rrMemHl => execRrMemHl s
  | .rrR rr => execRrR rr s
  | .slaMemHl => execSlaMemHl s
  | .slaR rr => execSlaR rr s
  | .sraMemHl => execSraMemHl s
  | .sraR rr => execSraR rr s
  | .sllMemHl => execSllMemHl s
  | .sllR rr => execSllR rr s
  | .srlMemHl => execSrlMemHl s
  | .srlR rr => execSrlR rr s
  | .bitMemHl b => execBitMemHl b s
  | .bitR b rr => execBitR b rr s
  | .resMemHl b => execResMemHl b s
  | .resR b rr => execResR b rr s
  | .setMemHl b => execSetMemHl b s
  | .setR b rr => execSetR b rr s
  | .inC => execInC s
  | .inRC rr => execInRC rr s
  | .outC0 => execOutC0 s
  | .outCR rr => execOutCR rr s
  | .sbcHlSs ss => execSbcHlSs ss s
  | .adcHlSs ss => execAdcHlSs ss s
  | .ldMemNnDd dd nn => execLdMemNnDd dd nn s
  | .ldDdMemNn dd nn => execLdDdMemNn dd nn s
  | .neg copy => execNeg copy s
  | .reti => execReti s
  | .retn copy => execRetn copy s
  | .im0 b5 b3 => execIm0 b5 b3 s
  | .im1 b5 => execIm1 b5 s
  | .im2 b5 => execIm2 b5 s
  | .ldIA => execLdIA s
  | .ldRefreshA => execLdRefreshA s
  | .ldAI => execLdAI s
  | .ldARefresh => execLdARefresh s
  | .rrd => execRrd s
  | .rld => execRld s
  | .ldi => execLdi s
  | .cpi => execCpi s
  | .ini => execIni s
  | .outi => execOuti s
  | .ldd => execLdd s
  | .cpd => execCpd s
  | .ind => execInd s
  | .outd => execOutd s
  | .ldir => execLdir s
  | .cpir => execCpir s
  | .inir => execInir s
  | .otir => execOtir s
  | .lddr => execLddr s
  | .cpdr => execCpdr s
  | .indr => execIndr s
  | .otdr => execOtdr s
  | .nopEd op => execNopEd op s
  | .ixCbPrefix => .refused .notAnInstruction
  | .redundantIxDd => execRedundantIxDd s
  | .redundantIxFd => execRedundantIxFd s
  | .redundantIxEd => execRedundantIxEd s
  | .ldIxNn nn => execLdIxNn nn s
  | .ldMemNnIx nn => execLdMemNnIx nn s
  | .ldIxMemNn nn => execLdIxMemNn nn s
  | .incIx => execIncIx s
  | .decIx => execDecIx s
  | .addIxPp pp => execAddIxPp pp s
  | .incIxh => execIncIxh s
  | .decIxh => execDecIxh s
  | .ldIxhN n => execLdIxhN n s
  | .incIxl => execIncIxl s
  | .decIxl => execDecIxl s
  | .ldIxlN n => execLdIxlN n s
  | .incMemIx d => execIncMemIx d s
  | .decMemIx d => execDecMemIx d s
  | .ldMemIxN d n => execLdMemIxN d n s
  | .haltIx => execHaltIx s
  | .ldMemIxR d rr => execLdMemIxR d rr s
  | .ldRMemIx rr d => execLdRMemIx rr d s
  | .ldIxhR rx => execLdIxhR rx s
  | .ldIxlR rx => execLdIxlR rx s
  | .ldRIxh rr => execLdRIxh rr s
  | .ldRIxl rr => execLdRIxl rr s
  | .addAMemIx d => execAddAMemIx d s
  | .addAIxh => execAddAIxh s
  | .addAIxl => execAddAIxl s
  | .adcAMemIx d => execAdcAMemIx d s
  | .adcAIxh => execAdcAIxh s
  | .adcAIxl => execAdcAIxl s
  | .subMemIx d => execSubMemIx d s
  | .subIxh => execSubIxh s
  | .subIxl => execSubIxl s
  | .sbcAMemIx d => execSbcAMemIx d s
  | .sbcAIxh => execSbcAIxh s
  | .sbcAIxl => execSbcAIxl s
  | .andMemIx d => execAndMemIx d s
  | .andIxh => execAndIxh s
  | .andIxl => execAndIxl s
  | .xorMemIx d => execXorMemIx d s
  | .xorIxh => execXorIxh s
  | .xorIxl => execXorIxl s
  | .orMemIx d => execOrMemIx d s
  | .orIxh => execOrIxh s
  | .orIxl => execOrIxl s
  | .cpMemIx d => execCpMemIx d s
  | .cpIxh => execCpIxh s
  | .cpIxl => execCpIxl s
  | .popIx => execPopIx s
  | .exSpIx => execExSpIx s
  | .pushIx => execPushIx s
  | .jpIx => execJpIx s
  | .ldSpIx => execLdSpIx s
  | .ixIgnored _ => .refused .notAnInstruction
  | .iyCbPrefix => .refused .notAnInstruction
  | .redundantIyDd => execRedundantIyDd s
  | .redundantIyFd => execRedundantIyFd s
  | .redundantIyEd => execRedundantIyEd s
  | .ldIyNn nn => execLdIyNn nn s
  | .ldMemNnIy nn => execLdMemNnIy nn s
  | .ldIyMemNn nn => execLdIyMemNn nn s
  | .incIy => execIncIy s
  | .decIy => execDecIy s
  | .addIyPp pp => execAddIyPp pp s
  | .incIyh => execIncIyh s
  | .decIyh => execDecIyh s
  | .ldIyhN n => execLdIyhN n s
  | .incIyl => execIncIyl s
  | .decIyl => execDecIyl s
  | .ldIylN n => execLdIylN n s
  | .incMemIy d => execIncMemIy d s
  | .decMemIy d => execDecMemIy d s
  | .ldMemIyN d n => execLdMemIyN d n s
  | .haltIy => execHaltIy s
  | .ldMemIyR d rr => execLdMemIyR d rr s
  | .ldRMemIy rr d => execLdRMemIy rr d s
  | .ldIyhR rx => execLdIyhR rx s
  | .ldIylR rx => execLdIylR rx s
  | .ldRIyh rr => execLdRIyh rr s
  | .ldRIyl rr => execLdRIyl rr s
  | .addAMemIy d => execAddAMemIy d s
  | .addAIyh => execAddAIyh s
  | .addAIyl => execAddAIyl s
  | .adcAMemIy d => execAdcAMemIy d s
  | .adcAIyh => execAdcAIyh s
  | .adcAIyl => execAdcAIyl s
  | .subMemIy d => execSubMemIy d s
  | .subIyh => execSubIyh s
  | .subIyl => execSubIyl s
  | .sbcAMemIy d => execSbcAMemIy d s
  | .sbcAIyh => execSbcAIyh s
  | .sbcAIyl => execSbcAIyl s
  | .andMemIy d => execAndMemIy d s
  | .andIyh => execAndIyh s
  | .andIyl => execAndIyl s
  | .xorMemIy d => execXorMemIy d s
  | .xorIyh => execXorIyh s
  | .xorIyl => execXorIyl s
  | .orMemIy d => execOrMemIy d s
  | .orIyh => execOrIyh s
  | .orIyl => execOrIyl s
  | .cpMemIy d => execCpMemIy d s
  | .cpIyh => execCpIyh s
  | .cpIyl => execCpIyl s
  | .popIy => execPopIy s
  | .exSpIy => execExSpIy s
  | .pushIy => execPushIy s
  | .jpIy => execJpIy s
  | .ldSpIy => execLdSpIy s
  | .iyIgnored _ => .refused .notAnInstruction
  | .bitMemIx b z d => execBitMemIx b z d s
  | .rlcMemIx d => execRlcMemIx d s
  | .ldRRlcMemIx rr d => execLdRRlcMemIx rr d s
  | .rrcMemIx d => execRrcMemIx d s
  | .ldRRrcMemIx rr d => execLdRRrcMemIx rr d s
  | .rlMemIx d => execRlMemIx d s
  | .ldRRlMemIx rr d => execLdRRlMemIx rr d s
  | .rrMemIx d => execRrMemIx d s
  | .ldRRrMemIx rr d => execLdRRrMemIx rr d s
  | .slaMemIx d => execSlaMemIx d s
  | .ldRSlaMemIx rr d => execLdRSlaMemIx rr d s
  | .sraMemIx d => execSraMemIx d s
  | .ldRSraMemIx rr d => execLdRSraMemIx rr d s
  | .sllMemIx d => execSllMemIx d s
  | .ldRSllMemIx rr d => execLdRSllMemIx rr d s
  | .srlMemIx d => execSrlMemIx d s
  | .ldRSrlMemIx rr d => execLdRSrlMemIx rr d s
  | .resMemIx b d => execResMemIx b d s
  | .ldRResMemIx rr b d => execLdRResMemIx rr b d s
  | .setMemIx b d => execSetMemIx b d s
  | .ldRSetMemIx rr b d => execLdRSetMemIx rr b d s
  | .bitMemIy b z d => execBitMemIy b z d s
  | .rlcMemIy d => execRlcMemIy d s
  | .ldRRlcMemIy rr d => execLdRRlcMemIy rr d s
  | .rrcMemIy d => execRrcMemIy d s
  | .ldRRrcMemIy rr d => execLdRRrcMemIy rr d s
  | .rlMemIy d => execRlMemIy d s
  | .ldRRlMemIy rr d => execLdRRlMemIy rr d s
  | .rrMemIy d => execRrMemIy d s
  | .ldRRrMemIy rr d => execLdRRrMemIy rr d s
  | .slaMemIy d => execSlaMemIy d s
  | .ldRSlaMemIy rr d => execLdRSlaMemIy rr d s
  | .sraMemIy d => execSraMemIy d s
  | .ldRSraMemIy rr d => execLdRSraMemIy rr d s
  | .sllMemIy d => execSllMemIy d s
  | .ldRSllMemIy rr d => execLdRSllMemIy rr d s
  | .srlMemIy d => execSrlMemIy d s
  | .ldRSrlMemIy rr d => execLdRSrlMemIy rr d s
  | .resMemIy b d => execResMemIy b d s
  | .ldRResMemIy rr b d => execLdRResMemIy rr b d s
  | .setMemIy b d => execSetMemIy b d s
  | .ldRSetMemIy rr b d => execLdRSetMemIy rr b d s

end Sys2Proof.Machine
end

