-- ==== Sys2Proof/Machine/Prefix.lean ====
section
/-! DEFINITION. The ignored index prefix (49_cpu_control.md R389), and the prefix rows of the opcode table: each enters its
prefix, takes the bytes that follow it in memory and runs what they name (30_encoding.md R99 to R104). -/

namespace Sys2Proof.Machine

/-- DD before a base opcode it does not affect (R389): one more opcode fetch, then the base instruction. -/
def execIxIgnored (base : Instr) (s : State) : Result := runTable base s.fetchOpcode

/-- FD before a base opcode it does not affect (R389). -/
def execIyIgnored (base : Instr) (s : State) : Result := runTable base s.fetchOpcode

/-- What an index prefix at `PC` runs, by the three bytes after it (R101). -/
def runIndexed (k : Idx) (s : State) : Result :=
  match (decodeIndexed k (s.peek (s.pc + 1)) (s.peek (s.pc + 2)) (s.peek (s.pc + 3))).1 with
  | .ixIgnored base => execIxIgnored base s
  | .iyIgnored base => execIyIgnored base s
  | j => runTable j s

/-- The CB prefix at `PC` (R99): the byte after it selects the row. -/
def execCbPrefix (s : State) : Result := runTable (decodeCb (s.peek (s.pc + 1))) s

/-- The ED prefix at `PC` (R100). -/
def execEdPrefix (s : State) : Result :=
  runTable (decodeEd (s.peek (s.pc + 1)) (s.peek (s.pc + 2)) (s.peek (s.pc + 3))) s

/-- The DD prefix at `PC` (R101). -/
def execDdPrefix (s : State) : Result := runIndexed .ix s

/-- The FD prefix at `PC` (R101). -/
def execFdPrefix (s : State) : Result := runIndexed .iy s

/-- DD CB at `PC` (R104): the displacement, then the byte that selects the row. -/
def execIxCbPrefix (s : State) : Result := runTable (decodeIdxCb .ix (s.peek (s.pc + 2)) (s.peek (s.pc + 3))) s

/-- FD CB at `PC` (R104). -/
def execIyCbPrefix (s : State) : Result := runTable (decodeIdxCb .iy (s.peek (s.pc + 2)) (s.peek (s.pc + 3))) s

end Sys2Proof.Machine
end

