-- ==== Sys2Proof/Machine/Dispatch.lean ====
section
/-! DEFINITION. The dispatch: one arm per constructor of Instr, one per row of spec/opcode_table.json, in its order. -/

namespace Sys2Proof.Machine

def exec (i : Instr) (s : State) : Host.Outcome State Fault Refusal :=
  match i with
  | .nop => Sys2Proof.Machine.execNop s
  | .exAfAf => Sys2Proof.Machine.execExAfAf s
  | .djnz e => Sys2Proof.Machine.execDjnz e s
  | .jr e => Sys2Proof.Machine.execJr e s
  | .jrCc cc e => Sys2Proof.Machine.execJrCc cc e s
  | .ldDdNn dd nn => Sys2Proof.Machine.execLdDdNn dd nn s
  | .addHlSs ss => Sys2Proof.Machine.execAddHlSs ss s
  | .ldMemBcA => Sys2Proof.Machine.execLdMemBcA s
  | .ldMemDeA => Sys2Proof.Machine.execLdMemDeA s
  | .ldMemNnHl nn => Sys2Proof.Machine.execLdMemNnHl nn s
  | .ldMemNnA nn => Sys2Proof.Machine.execLdMemNnA nn s
  | .ldAMemBc => Sys2Proof.Machine.execLdAMemBc s
  | .ldAMemDe => Sys2Proof.Machine.execLdAMemDe s
  | .ldHlMemNn nn => Sys2Proof.Machine.execLdHlMemNn nn s
  | .ldAMemNn nn => Sys2Proof.Machine.execLdAMemNn nn s
  | .incSs ss => Sys2Proof.Machine.execIncSs ss s
  | .decSs ss => Sys2Proof.Machine.execDecSs ss s
  | .incMemHl => Sys2Proof.Machine.execIncMemHl s
  | .decMemHl => Sys2Proof.Machine.execDecMemHl s
  | .ldMemHlN n => Sys2Proof.Machine.execLdMemHlN n s
  | .incR rr => Sys2Proof.Machine.execIncR rr s
  | .decR rr => Sys2Proof.Machine.execDecR rr s
  | .ldRN rr n => Sys2Proof.Machine.execLdRN rr n s
  | .rlca => Sys2Proof.Machine.execRlca s
  | .rrca => Sys2Proof.Machine.execRrca s
  | .rla => Sys2Proof.Machine.execRla s
  | .rra => Sys2Proof.Machine.execRra s
  | .daa => Sys2Proof.Machine.execDaa s
  | .cpl => Sys2Proof.Machine.execCpl s
  | .scf => Sys2Proof.Machine.execScf s
  | .ccf => Sys2Proof.Machine.execCcf s
  | .halt => Sys2Proof.Machine.execHalt s
  | .ldMemHlR rr => Sys2Proof.Machine.execLdMemHlR rr s
  | .ldRMemHl rr => Sys2Proof.Machine.execLdRMemHl rr s
  | .ldRR rd rs => Sys2Proof.Machine.execLdRR rd rs s
  | .addAMemHl => Sys2Proof.Machine.execAddAMemHl s
  | .addAR rr => Sys2Proof.Machine.execAddAR rr s
  | .adcAMemHl => Sys2Proof.Machine.execAdcAMemHl s
  | .adcAR rr => Sys2Proof.Machine.execAdcAR rr s
  | .subMemHl => Sys2Proof.Machine.execSubMemHl s
  | .subR rr => Sys2Proof.Machine.execSubR rr s
  | .sbcAMemHl => Sys2Proof.Machine.execSbcAMemHl s
  | .sbcAR rr => Sys2Proof.Machine.execSbcAR rr s
  | .andMemHl => Sys2Proof.Machine.execAndMemHl s
  | .andR rr => Sys2Proof.Machine.execAndR rr s
  | .xorMemHl => Sys2Proof.Machine.execXorMemHl s
  | .xorR rr => Sys2Proof.Machine.execXorR rr s
  | .orMemHl => Sys2Proof.Machine.execOrMemHl s
  | .orR rr => Sys2Proof.Machine.execOrR rr s
  | .cpMemHl => Sys2Proof.Machine.execCpMemHl s
  | .cpR rr => Sys2Proof.Machine.execCpR rr s
  | .retCc cc => Sys2Proof.Machine.execRetCc cc s
  | .popQq qq => Sys2Proof.Machine.execPopQq qq s
  | .ret => Sys2Proof.Machine.execRet s
  | .exx => Sys2Proof.Machine.execExx s
  | .jpHl => Sys2Proof.Machine.execJpHl s
  | .ldSpHl => Sys2Proof.Machine.execLdSpHl s
  | .jpCcNn cc nn => Sys2Proof.Machine.execJpCcNn cc nn s
  | .jpNn nn => Sys2Proof.Machine.execJpNn nn s
  | .cbPrefix => Sys2Proof.Machine.execCbPrefix s
  | .outNA n => Sys2Proof.Machine.execOutNA n s
  | .inAN n => Sys2Proof.Machine.execInAN n s
  | .exSpHl => Sys2Proof.Machine.execExSpHl s
  | .exDeHl => Sys2Proof.Machine.execExDeHl s
  | .di => Sys2Proof.Machine.execDi s
  | .ei => Sys2Proof.Machine.execEi s
  | .callCcNn cc nn => Sys2Proof.Machine.execCallCcNn cc nn s
  | .pushQq qq => Sys2Proof.Machine.execPushQq qq s
  | .callNn nn => Sys2Proof.Machine.execCallNn nn s
  | .ddPrefix => Sys2Proof.Machine.execDdPrefix s
  | .edPrefix => Sys2Proof.Machine.execEdPrefix s
  | .fdPrefix => Sys2Proof.Machine.execFdPrefix s
  | .addAN n => Sys2Proof.Machine.execAddAN n s
  | .adcAN n => Sys2Proof.Machine.execAdcAN n s
  | .subN n => Sys2Proof.Machine.execSubN n s
  | .sbcAN n => Sys2Proof.Machine.execSbcAN n s
  | .andN n => Sys2Proof.Machine.execAndN n s
  | .xorN n => Sys2Proof.Machine.execXorN n s
  | .orN n => Sys2Proof.Machine.execOrN n s
  | .cpN n => Sys2Proof.Machine.execCpN n s
  | .rstP t => Sys2Proof.Machine.execRstP t s
  | .rlcMemHl => Sys2Proof.Machine.execRlcMemHl s
  | .rlcR rr => Sys2Proof.Machine.execRlcR rr s
  | .rrcMemHl => Sys2Proof.Machine.execRrcMemHl s
  | .rrcR rr => Sys2Proof.Machine.execRrcR rr s
  | .rlMemHl => Sys2Proof.Machine.execRlMemHl s
  | .rlR rr => Sys2Proof.Machine.execRlR rr s
  | .rrMemHl => Sys2Proof.Machine.execRrMemHl s
  | .rrR rr => Sys2Proof.Machine.execRrR rr s
  | .slaMemHl => Sys2Proof.Machine.execSlaMemHl s
  | .slaR rr => Sys2Proof.Machine.execSlaR rr s
  | .sraMemHl => Sys2Proof.Machine.execSraMemHl s
  | .sraR rr => Sys2Proof.Machine.execSraR rr s
  | .sllMemHl => Sys2Proof.Machine.execSllMemHl s
  | .sllR rr => Sys2Proof.Machine.execSllR rr s
  | .srlMemHl => Sys2Proof.Machine.execSrlMemHl s
  | .srlR rr => Sys2Proof.Machine.execSrlR rr s
  | .bitMemHl b => Sys2Proof.Machine.execBitMemHl b s
  | .bitR b rr => Sys2Proof.Machine.execBitR b rr s
  | .resMemHl b => Sys2Proof.Machine.execResMemHl b s
  | .resR b rr => Sys2Proof.Machine.execResR b rr s
  | .setMemHl b => Sys2Proof.Machine.execSetMemHl b s
  | .setR b rr => Sys2Proof.Machine.execSetR b rr s
  | .inC => Sys2Proof.Machine.execInC s
  | .inRC rr => Sys2Proof.Machine.execInRC rr s
  | .outC0 => Sys2Proof.Machine.execOutC0 s
  | .outCR rr => Sys2Proof.Machine.execOutCR rr s
  | .sbcHlSs ss => Sys2Proof.Machine.execSbcHlSs ss s
  | .adcHlSs ss => Sys2Proof.Machine.execAdcHlSs ss s
  | .ldMemNnDd dd nn => Sys2Proof.Machine.execLdMemNnDd dd nn s
  | .ldDdMemNn dd nn => Sys2Proof.Machine.execLdDdMemNn dd nn s
  | .neg copy => Sys2Proof.Machine.execNeg copy s
  | .reti => Sys2Proof.Machine.execReti s
  | .retn copy => Sys2Proof.Machine.execRetn copy s
  | .im0 b5 b3 => Sys2Proof.Machine.execIm0 b5 b3 s
  | .im1 b5 => Sys2Proof.Machine.execIm1 b5 s
  | .im2 b5 => Sys2Proof.Machine.execIm2 b5 s
  | .ldIA => Sys2Proof.Machine.execLdIA s
  | .ldRefreshA => Sys2Proof.Machine.execLdRefreshA s
  | .ldAI => Sys2Proof.Machine.execLdAI s
  | .ldARefresh => Sys2Proof.Machine.execLdARefresh s
  | .rrd => Sys2Proof.Machine.execRrd s
  | .rld => Sys2Proof.Machine.execRld s
  | .ldi => Sys2Proof.Machine.execLdi s
  | .cpi => Sys2Proof.Machine.execCpi s
  | .ini => Sys2Proof.Machine.execIni s
  | .outi => Sys2Proof.Machine.execOuti s
  | .ldd => Sys2Proof.Machine.execLdd s
  | .cpd => Sys2Proof.Machine.execCpd s
  | .ind => Sys2Proof.Machine.execInd s
  | .outd => Sys2Proof.Machine.execOutd s
  | .ldir => Sys2Proof.Machine.execLdir s
  | .cpir => Sys2Proof.Machine.execCpir s
  | .inir => Sys2Proof.Machine.execInir s
  | .otir => Sys2Proof.Machine.execOtir s
  | .lddr => Sys2Proof.Machine.execLddr s
  | .cpdr => Sys2Proof.Machine.execCpdr s
  | .indr => Sys2Proof.Machine.execIndr s
  | .otdr => Sys2Proof.Machine.execOtdr s
  | .nopEd op => Sys2Proof.Machine.execNopEd op s
  | .ixCbPrefix => Sys2Proof.Machine.execIxCbPrefix s
  | .redundantIxDd => Sys2Proof.Machine.execRedundantIxDd s
  | .redundantIxFd => Sys2Proof.Machine.execRedundantIxFd s
  | .redundantIxEd => Sys2Proof.Machine.execRedundantIxEd s
  | .ldIxNn nn => Sys2Proof.Machine.execLdIxNn nn s
  | .ldMemNnIx nn => Sys2Proof.Machine.execLdMemNnIx nn s
  | .ldIxMemNn nn => Sys2Proof.Machine.execLdIxMemNn nn s
  | .incIx => Sys2Proof.Machine.execIncIx s
  | .decIx => Sys2Proof.Machine.execDecIx s
  | .addIxPp pp => Sys2Proof.Machine.execAddIxPp pp s
  | .incIxh => Sys2Proof.Machine.execIncIxh s
  | .decIxh => Sys2Proof.Machine.execDecIxh s
  | .ldIxhN n => Sys2Proof.Machine.execLdIxhN n s
  | .incIxl => Sys2Proof.Machine.execIncIxl s
  | .decIxl => Sys2Proof.Machine.execDecIxl s
  | .ldIxlN n => Sys2Proof.Machine.execLdIxlN n s
  | .incMemIx d => Sys2Proof.Machine.execIncMemIx d s
  | .decMemIx d => Sys2Proof.Machine.execDecMemIx d s
  | .ldMemIxN d n => Sys2Proof.Machine.execLdMemIxN d n s
  | .haltIx => Sys2Proof.Machine.execHaltIx s
  | .ldMemIxR d rr => Sys2Proof.Machine.execLdMemIxR d rr s
  | .ldRMemIx rr d => Sys2Proof.Machine.execLdRMemIx rr d s
  | .ldIxhR rx => Sys2Proof.Machine.execLdIxhR rx s
  | .ldIxlR rx => Sys2Proof.Machine.execLdIxlR rx s
  | .ldRIxh rr => Sys2Proof.Machine.execLdRIxh rr s
  | .ldRIxl rr => Sys2Proof.Machine.execLdRIxl rr s
  | .addAMemIx d => Sys2Proof.Machine.execAddAMemIx d s
  | .addAIxh => Sys2Proof.Machine.execAddAIxh s
  | .addAIxl => Sys2Proof.Machine.execAddAIxl s
  | .adcAMemIx d => Sys2Proof.Machine.execAdcAMemIx d s
  | .adcAIxh => Sys2Proof.Machine.execAdcAIxh s
  | .adcAIxl => Sys2Proof.Machine.execAdcAIxl s
  | .subMemIx d => Sys2Proof.Machine.execSubMemIx d s
  | .subIxh => Sys2Proof.Machine.execSubIxh s
  | .subIxl => Sys2Proof.Machine.execSubIxl s
  | .sbcAMemIx d => Sys2Proof.Machine.execSbcAMemIx d s
  | .sbcAIxh => Sys2Proof.Machine.execSbcAIxh s
  | .sbcAIxl => Sys2Proof.Machine.execSbcAIxl s
  | .andMemIx d => Sys2Proof.Machine.execAndMemIx d s
  | .andIxh => Sys2Proof.Machine.execAndIxh s
  | .andIxl => Sys2Proof.Machine.execAndIxl s
  | .xorMemIx d => Sys2Proof.Machine.execXorMemIx d s
  | .xorIxh => Sys2Proof.Machine.execXorIxh s
  | .xorIxl => Sys2Proof.Machine.execXorIxl s
  | .orMemIx d => Sys2Proof.Machine.execOrMemIx d s
  | .orIxh => Sys2Proof.Machine.execOrIxh s
  | .orIxl => Sys2Proof.Machine.execOrIxl s
  | .cpMemIx d => Sys2Proof.Machine.execCpMemIx d s
  | .cpIxh => Sys2Proof.Machine.execCpIxh s
  | .cpIxl => Sys2Proof.Machine.execCpIxl s
  | .popIx => Sys2Proof.Machine.execPopIx s
  | .exSpIx => Sys2Proof.Machine.execExSpIx s
  | .pushIx => Sys2Proof.Machine.execPushIx s
  | .jpIx => Sys2Proof.Machine.execJpIx s
  | .ldSpIx => Sys2Proof.Machine.execLdSpIx s
  | .ixIgnored base => Sys2Proof.Machine.execIxIgnored base s
  | .iyCbPrefix => Sys2Proof.Machine.execIyCbPrefix s
  | .redundantIyDd => Sys2Proof.Machine.execRedundantIyDd s
  | .redundantIyFd => Sys2Proof.Machine.execRedundantIyFd s
  | .redundantIyEd => Sys2Proof.Machine.execRedundantIyEd s
  | .ldIyNn nn => Sys2Proof.Machine.execLdIyNn nn s
  | .ldMemNnIy nn => Sys2Proof.Machine.execLdMemNnIy nn s
  | .ldIyMemNn nn => Sys2Proof.Machine.execLdIyMemNn nn s
  | .incIy => Sys2Proof.Machine.execIncIy s
  | .decIy => Sys2Proof.Machine.execDecIy s
  | .addIyPp pp => Sys2Proof.Machine.execAddIyPp pp s
  | .incIyh => Sys2Proof.Machine.execIncIyh s
  | .decIyh => Sys2Proof.Machine.execDecIyh s
  | .ldIyhN n => Sys2Proof.Machine.execLdIyhN n s
  | .incIyl => Sys2Proof.Machine.execIncIyl s
  | .decIyl => Sys2Proof.Machine.execDecIyl s
  | .ldIylN n => Sys2Proof.Machine.execLdIylN n s
  | .incMemIy d => Sys2Proof.Machine.execIncMemIy d s
  | .decMemIy d => Sys2Proof.Machine.execDecMemIy d s
  | .ldMemIyN d n => Sys2Proof.Machine.execLdMemIyN d n s
  | .haltIy => Sys2Proof.Machine.execHaltIy s
  | .ldMemIyR d rr => Sys2Proof.Machine.execLdMemIyR d rr s
  | .ldRMemIy rr d => Sys2Proof.Machine.execLdRMemIy rr d s
  | .ldIyhR rx => Sys2Proof.Machine.execLdIyhR rx s
  | .ldIylR rx => Sys2Proof.Machine.execLdIylR rx s
  | .ldRIyh rr => Sys2Proof.Machine.execLdRIyh rr s
  | .ldRIyl rr => Sys2Proof.Machine.execLdRIyl rr s
  | .addAMemIy d => Sys2Proof.Machine.execAddAMemIy d s
  | .addAIyh => Sys2Proof.Machine.execAddAIyh s
  | .addAIyl => Sys2Proof.Machine.execAddAIyl s
  | .adcAMemIy d => Sys2Proof.Machine.execAdcAMemIy d s
  | .adcAIyh => Sys2Proof.Machine.execAdcAIyh s
  | .adcAIyl => Sys2Proof.Machine.execAdcAIyl s
  | .subMemIy d => Sys2Proof.Machine.execSubMemIy d s
  | .subIyh => Sys2Proof.Machine.execSubIyh s
  | .subIyl => Sys2Proof.Machine.execSubIyl s
  | .sbcAMemIy d => Sys2Proof.Machine.execSbcAMemIy d s
  | .sbcAIyh => Sys2Proof.Machine.execSbcAIyh s
  | .sbcAIyl => Sys2Proof.Machine.execSbcAIyl s
  | .andMemIy d => Sys2Proof.Machine.execAndMemIy d s
  | .andIyh => Sys2Proof.Machine.execAndIyh s
  | .andIyl => Sys2Proof.Machine.execAndIyl s
  | .xorMemIy d => Sys2Proof.Machine.execXorMemIy d s
  | .xorIyh => Sys2Proof.Machine.execXorIyh s
  | .xorIyl => Sys2Proof.Machine.execXorIyl s
  | .orMemIy d => Sys2Proof.Machine.execOrMemIy d s
  | .orIyh => Sys2Proof.Machine.execOrIyh s
  | .orIyl => Sys2Proof.Machine.execOrIyl s
  | .cpMemIy d => Sys2Proof.Machine.execCpMemIy d s
  | .cpIyh => Sys2Proof.Machine.execCpIyh s
  | .cpIyl => Sys2Proof.Machine.execCpIyl s
  | .popIy => Sys2Proof.Machine.execPopIy s
  | .exSpIy => Sys2Proof.Machine.execExSpIy s
  | .pushIy => Sys2Proof.Machine.execPushIy s
  | .jpIy => Sys2Proof.Machine.execJpIy s
  | .ldSpIy => Sys2Proof.Machine.execLdSpIy s
  | .iyIgnored base => Sys2Proof.Machine.execIyIgnored base s
  | .bitMemIx b z d => Sys2Proof.Machine.execBitMemIx b z d s
  | .rlcMemIx d => Sys2Proof.Machine.execRlcMemIx d s
  | .ldRRlcMemIx rr d => Sys2Proof.Machine.execLdRRlcMemIx rr d s
  | .rrcMemIx d => Sys2Proof.Machine.execRrcMemIx d s
  | .ldRRrcMemIx rr d => Sys2Proof.Machine.execLdRRrcMemIx rr d s
  | .rlMemIx d => Sys2Proof.Machine.execRlMemIx d s
  | .ldRRlMemIx rr d => Sys2Proof.Machine.execLdRRlMemIx rr d s
  | .rrMemIx d => Sys2Proof.Machine.execRrMemIx d s
  | .ldRRrMemIx rr d => Sys2Proof.Machine.execLdRRrMemIx rr d s
  | .slaMemIx d => Sys2Proof.Machine.execSlaMemIx d s
  | .ldRSlaMemIx rr d => Sys2Proof.Machine.execLdRSlaMemIx rr d s
  | .sraMemIx d => Sys2Proof.Machine.execSraMemIx d s
  | .ldRSraMemIx rr d => Sys2Proof.Machine.execLdRSraMemIx rr d s
  | .sllMemIx d => Sys2Proof.Machine.execSllMemIx d s
  | .ldRSllMemIx rr d => Sys2Proof.Machine.execLdRSllMemIx rr d s
  | .srlMemIx d => Sys2Proof.Machine.execSrlMemIx d s
  | .ldRSrlMemIx rr d => Sys2Proof.Machine.execLdRSrlMemIx rr d s
  | .resMemIx b d => Sys2Proof.Machine.execResMemIx b d s
  | .ldRResMemIx rr b d => Sys2Proof.Machine.execLdRResMemIx rr b d s
  | .setMemIx b d => Sys2Proof.Machine.execSetMemIx b d s
  | .ldRSetMemIx rr b d => Sys2Proof.Machine.execLdRSetMemIx rr b d s
  | .bitMemIy b z d => Sys2Proof.Machine.execBitMemIy b z d s
  | .rlcMemIy d => Sys2Proof.Machine.execRlcMemIy d s
  | .ldRRlcMemIy rr d => Sys2Proof.Machine.execLdRRlcMemIy rr d s
  | .rrcMemIy d => Sys2Proof.Machine.execRrcMemIy d s
  | .ldRRrcMemIy rr d => Sys2Proof.Machine.execLdRRrcMemIy rr d s
  | .rlMemIy d => Sys2Proof.Machine.execRlMemIy d s
  | .ldRRlMemIy rr d => Sys2Proof.Machine.execLdRRlMemIy rr d s
  | .rrMemIy d => Sys2Proof.Machine.execRrMemIy d s
  | .ldRRrMemIy rr d => Sys2Proof.Machine.execLdRRrMemIy rr d s
  | .slaMemIy d => Sys2Proof.Machine.execSlaMemIy d s
  | .ldRSlaMemIy rr d => Sys2Proof.Machine.execLdRSlaMemIy rr d s
  | .sraMemIy d => Sys2Proof.Machine.execSraMemIy d s
  | .ldRSraMemIy rr d => Sys2Proof.Machine.execLdRSraMemIy rr d s
  | .sllMemIy d => Sys2Proof.Machine.execSllMemIy d s
  | .ldRSllMemIy rr d => Sys2Proof.Machine.execLdRSllMemIy rr d s
  | .srlMemIy d => Sys2Proof.Machine.execSrlMemIy d s
  | .ldRSrlMemIy rr d => Sys2Proof.Machine.execLdRSrlMemIy rr d s
  | .resMemIy b d => Sys2Proof.Machine.execResMemIy b d s
  | .ldRResMemIy rr b d => Sys2Proof.Machine.execLdRResMemIy rr b d s
  | .setMemIy b d => Sys2Proof.Machine.execSetMemIy b d s
  | .ldRSetMemIy rr b d => Sys2Proof.Machine.execLdRSetMemIy rr b d s

end Sys2Proof.Machine
end

