-- ==== Sys2Proof/Machine/Engine.lean ====
section
/-! DEFINITION. The engine step (60_exceptions.md R401 to R406), the Interrupt Device (R420 to R424), the machine step
(R400), and how a program's bytes are placed. -/

namespace Sys2Proof.Machine

/-! ### One instruction (R402, 30_encoding.md R103) -/

/-- The instruction the bytes at `PC` decode to. The look is no bus cycle: the meaning runs the fetches (log 9). -/
def State.instrAt (s : State) : Instr :=
  (decode4 (s.peek s.pc) (s.peek (s.pc + 1)) (s.peek (s.pc + 2)) (s.peek (s.pc + 3))).1

/-- The prefix state the bytes at `PC` set up for the rest of the step (10_state.md R42, R103): the two modes and the held
displacement. A redundant prefix sets none. -/
def State.modesAt (s : State) : PrefixMode × IndexMode × Option Byte :=
  let b0 := s.peek s.pc
  let b1 := s.peek (s.pc + 1)
  if b0 = 0xCB then (.bit, .none, none)
  else if b0 = 0xED then (.extended, .none, none)
  else if b0 = 0xDD ∨ b0 = 0xFD then
    let m : IndexMode := if b0 = 0xDD then .ix else .iy
    if b1 = 0xDD ∨ b1 = 0xFD ∨ b1 = 0xED then (.none, .none, none)
    else if b1 = 0xCB then (.bit, m, some (s.peek (s.pc + 2)))
    else (.none, m, none)
  else (.none, .none, none)

/-- The start of an instruction step: `IntBlocked <- 0` (R402) and the prefix state. -/
def State.beginInstr (s : State) : State :=
  { s with intBlocked := false, prefixMode := s.modesAt.1, indexMode := s.modesAt.2.1, heldDisp := s.modesAt.2.2 }

/-- The end of an instruction step: the modes are cleared (R103). -/
def State.endInstr (s : State) : State := { s with prefixMode := .none, indexMode := .none, heldDisp := none }

/-- `DecodeAndExecute()` (R402). -/
def State.decodeAndExecute (s : State) : Result :=
  match exec s.instrAt s.beginInstr with
  | .next t => .next t.endInstr
  | .fault e => .fault e
  | .refused e => .refused e

/-! ### The engine step -/

/-- `HaltedStep()` (R405). -/
def State.haltedStep (s : State) : State := s.refresh.tick 4

/-- The maskable interrupt is acceptable (R403). -/
def State.acceptsInt (s : State) : Bool := s.reqInt && s.iff1 && !s.intBlocked

/-- `ExecuteCpuCycle()` (R401). -/
def State.engineStep (s : State) : Result :=
  if s.halted && !s.reqReset && !s.reqNmi && !s.acceptsInt then .next s.haltedStep
  else if s.reqReset then .next s.resetAction
  else if s.reqNmi then .next s.serviceNmi
  else if s.acceptsInt then s.serviceInt
  else s.decodeAndExecute

/-! ### The Interrupt Device -/

/-- `StartNewFrame` (R400, R423). -/
def State.startFrame (s : State) : State :=
  if s.frameIndex = s.devFrame then s
  else { s with devRaised := false, devRevoked := false, devFrame := s.frameIndex }

/-- `CheckForInterrupt(ft)` (R421, R422). -/
def State.checkForInterrupt (s : State) (ft : Nat) : State :=
  if s.devRevoked then s
  else if ft < s.cfg.interruptTact then s
  else if s.cfg.interruptTact + s.cfg.longestOpTacts < ft then { s with devRevoked := true, reqInt := false }
  else if s.devRaised then s
  else { s with devRaised := true, reqInt := true }

/-- What the machine step does before the engine step (R400). -/
def State.deviceStep (s : State) : State := s.startFrame.checkForInterrupt s.frameTact

/-! ### The machine step -/

/-- The constraint of 00_scope.md R6. -/
def usable (k : Config) : Bool := decide (k.interruptTact + k.longestOpTacts < k.frameTacts)

/-- `MachineStep()` (R400); a configuration that breaks R6 is refused. -/
def State.machineStep (s : State) : Result :=
  if usable s.cfg then s.deviceStep.engineStep else .refused .badConfiguration

/-- Bulk-load an instruction of the opcode table at `PC` (R441; log 22). -/
def State.placeWord (s : State) (nbits w : Nat) : State := s.loadBytes s.pc (tableBytes nbits w)

end Sys2Proof.Machine
end

