-- ==== Sys2Proof/Machine/Step.lean ====
section
/-! DEFINITION. The step of the machine: the machine step of 60_exceptions.md R400 (log 8). -/

namespace Sys2Proof.Machine

/-- One machine step. -/
def step (s : State) : Host.Outcome State Fault Refusal := s.machineStep

/-- The state with an instruction of the opcode table where `step` fetches next (log 22). -/
def State.withFetchWord (s : State) (nbits w : Nat) : State := s.placeWord nbits w

end Sys2Proof.Machine
end

