-- ==== Sys2Proof/Machine/HostActions.lean ====
section
/-! DEFINITION. What the host can do between steps (60_exceptions.md R440 to R442). `step` takes none of these itself
(log 15). -/

namespace Sys2Proof.Machine

/-- Request a reset (R441): the next engine step performs it. -/
def State.requestReset (s : State) : State := { s with reqReset := true }

/-- Call `Reset()` (R441, 70_reset_and_hazards.md R451): the reset action at once. -/
def State.hostReset (s : State) : State := s.resetAction

/-- Request an NMI (R441). -/
def State.requestNmi (s : State) : State := { s with reqNmi := true }

/-- Load memory (R441): bytes from `x` up, past ROM protection and contention. -/
def State.bulkLoad (s : State) (x : Word) (bytes : List Byte) : State := s.loadBytes x bytes

/-- The debug hook `SetTacts(t)` (R440). -/
def State.setTacts (s : State) (t : Tact) : State := { s with tacts := t }

/-- The debug hook `SetInterruptMode(m)` (R440): a value outside 0 to 2 is refused. -/
def State.setInterruptMode (s : State) (m : Nat) : Result :=
  match m with
  | 0 => .next (s.setIm .im0)
  | 1 => .next (s.setIm .im1)
  | 2 => .next (s.setIm .im2)
  | _ => .refused (.badInterruptMode m)

/-- The debug hook `BlockInterrupt()` (R440). -/
def State.hostBlockInterrupt (s : State) : State := s.blockInt

/-- The run options of R442: what ends a run after a step. Cancellation is the host's own. -/
structure RunLimits where
  tactBudget  : Option Nat
  stepBudget  : Option Nat
  stopOnHalt  : Bool
  breakpoints : List Word
deriving DecidableEq, Repr

/-- Whether the run that began at tact `start` ends after the step that led to `s`, the `steps`-th (R442). -/
def runEnds (lim : RunLimits) (start : Tact) (steps : Nat) (s : State) : Bool :=
  (match lim.tactBudget with
    | some n => decide (start.toNat + n ≤ s.tacts.toNat)
    | none => false)
  || (match lim.stepBudget with
    | some n => decide (n ≤ steps)
    | none => false)
  || (lim.stopOnHalt && s.halted)
  || lim.breakpoints.contains s.pc

end Sys2Proof.Machine
end

