-- ==== Sys2Proof/Safety.lean ====
section
/-! DEFINITION. The terms claims are stated in: the invariant, frames, stores, flags one by one, the tables of tacts and
opcode fetches (70_reset_and_hazards.md R473, 30_encoding.md R107), and the instructions of one shape by their operation. -/

namespace Sys2Proof.Machine

/-- What holds between steps: memory in its canonical form (log 6), no prefix state (10_state.md R42). -/
def State.Inv (s : State) : Prop :=
  s.mem.wf = true ∧ s.prefixMode = .none ∧ s.indexMode = .none ∧ s.heldDisp = none

/-- No access waits: `CONTENTION` is 0 everywhere. -/
def State.Uncontended (s : State) : Prop := ∀ ft, contentionAt s.cfg.contention ft = 0

/-- `Tacts` when an access that begins at `begins` has had its contention lookup (R73 `Contend`): `hit` tells whether its
address or port is contended. -/
def afterContend (k : Config) (hit : Bool) (begins : Tact) : Tact :=
  begins + BitVec.ofNat 64 (if hit then contentionAt k.contention (begins.toNat % k.frameTacts) else 0)

/-- `s` with the three registers every instruction advances taken from `t`: a frame reads `t = s.ran t`. -/
def State.ran (s t : State) : State := { s with pc := t.pc, r := t.r, tacts := t.tacts }

/-- Every byte of memory reads in `t` as in `s`. -/
def SameMemory (s t : State) : Prop := ∀ y, t.peek y = s.peek y

/-- From `s` to `t` the byte at `x` took `v` unless `x` is ROM (20_memory.md R68), and no other byte changed. -/
def StoresByte (s t : State) (x : Word) (v : Byte) : Prop :=
  ∀ y, t.peek y = if y = x ∧ s.isRom x = false then v else s.peek y

/-- The same for a word at `x` and `x + 1`, low byte first (R62). -/
def StoresWord (s t : State) (x w : Word) : Prop :=
  ∀ y, t.peek y =
    if y = x ∧ s.isRom x = false then lo w
    else if y = x + 1 ∧ s.isRom (x + 1) = false then hi w
    else s.peek y

/-- The eight flags of `f` (10_state.md R30), each by the condition under which it is 1. -/
def HasFlags (f : Byte) (sf zf yf hf xf pf nf cf : Prop) : Prop :=
  (flagS f = true ↔ sf) ∧ (flagZ f = true ↔ zf) ∧ (flagY f = true ↔ yf) ∧ (flagH f = true ↔ hf) ∧
  (flagX f = true ↔ xf) ∧ (flagPV f = true ↔ pf) ∧ (flagN f = true ↔ nf) ∧ (flagC f = true ↔ cf)

/-- The instruction completes: `exec` answers a next state, and that state meets `P`. -/
def Runs (j : Instr) (s : State) (P : State → Prop) : Prop := ∃ t, exec j s = .next t ∧ P t

/-- The address an interrupt or NMI pushes: that of the next instruction, `LeaveHalt` included (60_exceptions.md R407,
R410). -/
def returnAddress (s : State) : Word := if s.halted = true ∧ s.cfg.haltPc = .self then s.pc + 1 else s.pc

/-- The maskable interrupt is taken from `s` to `t` with the new `PC` at `w`, in `n` tacts without contention (R410). -/
def EntersInt (s t : State) (w : Word) (n : Nat) : Prop :=
  t = { s with
    reqInt := false, halted := false, iff1 := false, iff2 := false, r := bumpR s.r, sp := s.sp - 2, pc := w, mw := w
    mem := t.mem, tacts := t.tacts } ∧
  StoresWord s t (s.sp - 2) (returnAddress s) ∧
  (s.Uncontended → t.tacts = s.tacts + BitVec.ofNat 64 n)

/-- `f` holds the flags of `INC` of `v` from the old flags `f0` (43_alu8.md R229). -/
def IncFlags (f0 v f : Byte) : Prop :=
  HasFlags f ((v + 1).getLsbD 7) (v + 1 = 0) ((v + 1).getLsbD 5) (v.toNat % 16 = 15) ((v + 1).getLsbD 3) (v = 0x7F) False
    (flagC f0)

/-- `f` holds the flags of `DEC` of `v` (R232). -/
def DecFlags (f0 v f : Byte) : Prop :=
  HasFlags f ((v - 1).getLsbD 7) (v - 1 = 0) ((v - 1).getLsbD 5) (v.toNat % 16 = 0) ((v - 1).getLsbD 3) (v = 0x80) True
    (flagC f0)

/-- `f` holds the flags of a CB rotate or shift with result `res` and shifted-out bit `c` (45_rotate_shift.md R284). -/
def ShiftFlags (res : Byte) (c : Bool) (f : Byte) : Prop :=
  HasFlags f (res.getLsbD 7) (res = 0) (res.getLsbD 5) False (res.getLsbD 3) (parity res) False c

/-- `f` holds the flags of `BIT b` of `v`, with Y and X from `y` and `x` (46_bit.md R310 to R312). -/
def BitFlags (f0 : Byte) (b : BitVec 3) (v : Byte) (y x : Bool) (f : Byte) : Prop :=
  HasFlags f (b = 7 ∧ v.getLsbD 7) (v.getLsbD b.toNat = false) y True x (v.getLsbD b.toNat = false) False (flagC f0)

/-- `f` holds the flags of a block I/O instruction with the new `B` in `b`, the byte moved `v` and the sum `n` of
48_io.md R366. -/
def BlockIoFlags (b v : Byte) (n : Nat) (f : Byte) : Prop :=
  HasFlags f (b.getLsbD 7) (b = 0) (b.getLsbD 5) (255 < n) (b.getLsbD 3) (parity (BitVec.ofNat 8 (n % 8) ^^^ b))
    (v.getLsbD 7) (255 < n)

/-- The instruction a term runs: the base instruction behind an ignored prefix (49_cpu_control.md R389). -/
def coreOf : Instr → Instr
  | .ixIgnored base => base
  | .iyIgnored base => base
  | j => j

/-- The redundant index prefixes (R387). -/
def isRedundant : Instr → Bool
  | .redundantIxDd | .redundantIxFd | .redundantIxEd | .redundantIyDd | .redundantIyFd | .redundantIyEd => true
  | _ => false

/-- The instructions that may leave `PC` elsewhere than after their last byte: control transfers, the repeats (R195) and
HALT (R381). -/
def mayTransfer (j : Instr) : Bool :=
  match coreOf j with
  | .djnz _ | .jr _ | .jrCc _ _ | .retCc _ | .ret | .jpHl | .jpCcNn _ _ | .jpNn _ | .callCcNn _ _ | .callNn _ | .rstP _
  | .reti | .retn _ | .jpIx | .jpIy | .ldir | .lddr | .cpir | .cpdr | .inir | .indr | .otir | .otdr | .halt | .haltIx
  | .haltIy => true
  | _ => false

/-- The tacts of an instruction begun in `s` without contention: the table R473. A prefix row of the opcode table has no
count of its own. -/
def tactsIn (s : State) : Instr → Nat
  | .nop | .exAfAf | .incR _ | .decR _ | .rlca | .rrca | .rla | .rra | .daa | .cpl | .scf | .ccf | .halt | .ldRR _ _
  | .addAR _ | .adcAR _ | .subR _ | .sbcAR _ | .andR _ | .xorR _ | .orR _ | .cpR _ | .exx | .jpHl | .exDeHl | .di
  | .ei | .redundantIxDd | .redundantIxFd | .redundantIxEd | .redundantIyDd | .redundantIyFd | .redundantIyEd => 4
  | .incSs _ | .decSs _ | .ldSpHl => 6
  | .ldMemBcA | .ldMemDeA | .ldAMemBc | .ldAMemDe | .ldRN _ _ | .ldMemHlR _ | .ldRMemHl _ | .addAMemHl | .adcAMemHl
  | .subMemHl | .sbcAMemHl | .andMemHl | .xorMemHl | .orMemHl | .cpMemHl | .addAN _ | .adcAN _ | .subN _ | .sbcAN _
  | .andN _ | .xorN _ | .orN _ | .cpN _ => 7
  | .rlcR _ | .rrcR _ | .rlR _ | .rrR _ | .slaR _ | .sraR _ | .sllR _ | .srlR _ | .bitR _ _ | .resR _ _ | .setR _ _
  | .neg _ | .im0 _ _ | .im1 _ | .im2 _ | .nopEd _ | .incIxh | .decIxh | .incIxl | .decIxl | .haltIx | .ldIxhR _
  | .ldIxlR _ | .ldRIxh _ | .ldRIxl _ | .addAIxh | .addAIxl | .adcAIxh | .adcAIxl | .subIxh | .subIxl | .sbcAIxh
  | .sbcAIxl | .andIxh | .andIxl | .xorIxh | .xorIxl | .orIxh | .orIxl | .cpIxh | .cpIxl | .jpIx | .incIyh | .decIyh
  | .incIyl | .decIyl | .haltIy | .ldIyhR _ | .ldIylR _ | .ldRIyh _ | .ldRIyl _ | .addAIyh | .addAIyl | .adcAIyh
  | .adcAIyl | .subIyh | .subIyl | .sbcAIyh | .sbcAIyl | .andIyh | .andIyl | .xorIyh | .xorIyl | .orIyh | .orIyl
  | .cpIyh | .cpIyl | .jpIy => 8
  | .ldIA | .ldRefreshA | .ldAI | .ldARefresh => 9
  | .ldDdNn _ _ | .ldMemHlN _ | .popQq _ | .ret | .jpCcNn _ _ | .jpNn _ | .incIx | .decIx | .ldSpIx | .incIy | .decIy
  | .ldSpIy => 10
  | .addHlSs _ | .incMemHl | .decMemHl | .outNA _ | .inAN _ | .pushQq _ | .rstP _ | .ldIxhN _ | .ldIxlN _ | .ldIyhN _
  | .ldIylN _ => 11
  | .jr _ | .bitMemHl _ | .inC | .inRC _ | .outC0 | .outCR _ => 12
  | .ldMemNnA _ | .ldAMemNn _ => 13
  | .reti | .retn _ | .ldIxNn _ | .popIx | .ldIyNn _ | .popIy => 14
  | .rlcMemHl | .rrcMemHl | .rlMemHl | .rrMemHl | .slaMemHl | .sraMemHl | .sllMemHl | .srlMemHl | .resMemHl _
  | .setMemHl _ | .sbcHlSs _ | .adcHlSs _ | .addIxPp _ | .pushIx | .addIyPp _ | .pushIy => 15
  | .ldMemNnHl _ | .ldHlMemNn _ | .ldi | .cpi | .ini | .outi | .ldd | .cpd | .ind | .outd => 16
  | .callNn _ => 17
  | .rrd | .rld => 18
  | .exSpHl | .ldMemIxN _ _ | .ldMemIxR _ _ | .ldRMemIx _ _ | .addAMemIx _ | .adcAMemIx _ | .subMemIx _
  | .sbcAMemIx _ | .andMemIx _ | .xorMemIx _ | .orMemIx _ | .cpMemIx _ | .ldMemIyN _ _ | .ldMemIyR _ _
  | .ldRMemIy _ _ | .addAMemIy _ | .adcAMemIy _ | .subMemIy _ | .sbcAMemIy _ | .andMemIy _ | .xorMemIy _ | .orMemIy _
  | .cpMemIy _ => 19
  | .ldMemNnDd _ _ | .ldDdMemNn _ _ | .ldMemNnIx _ | .ldIxMemNn _ | .ldMemNnIy _ | .ldIyMemNn _ | .bitMemIx _ _ _
  | .bitMemIy _ _ _ => 20
  | .incMemIx _ | .decMemIx _ | .exSpIx | .incMemIy _ | .decMemIy _ | .exSpIy | .rlcMemIx _ | .ldRRlcMemIx _ _
  | .rrcMemIx _ | .ldRRrcMemIx _ _ | .rlMemIx _ | .ldRRlMemIx _ _ | .rrMemIx _ | .ldRRrMemIx _ _ | .slaMemIx _
  | .ldRSlaMemIx _ _ | .sraMemIx _ | .ldRSraMemIx _ _ | .sllMemIx _ | .ldRSllMemIx _ _ | .srlMemIx _
  | .ldRSrlMemIx _ _ | .resMemIx _ _ | .ldRResMemIx _ _ _ | .setMemIx _ _ | .ldRSetMemIx _ _ _ | .rlcMemIy _
  | .ldRRlcMemIy _ _ | .rrcMemIy _ | .ldRRrcMemIy _ _ | .rlMemIy _ | .ldRRlMemIy _ _ | .rrMemIy _ | .ldRRrMemIy _ _
  | .slaMemIy _ | .ldRSlaMemIy _ _ | .sraMemIy _ | .ldRSraMemIy _ _ | .sllMemIy _ | .ldRSllMemIy _ _ | .srlMemIy _
  | .ldRSrlMemIy _ _ | .resMemIy _ _ | .ldRResMemIy _ _ _ | .setMemIy _ _ | .ldRSetMemIy _ _ _ => 23
  | .jrCc cc _ => if s.cond cc then 12 else 7
  | .djnz _ => if s.b = 1 then 8 else 13
  | .callCcNn cc _ => if s.cond cc then 17 else 10
  | .retCc cc => if s.cond cc then 11 else 5
  | .ldir | .lddr => if s.bc = 1 then 16 else 21
  | .cpir | .cpdr => if s.bc = 1 ∨ s.a = s.peek s.hl then 16 else 21
  | .inir | .indr | .otir | .otdr => if s.b = 1 then 16 else 21
  | .ixIgnored base | .iyIgnored base => 4 + tactsIn s base
  | .cbPrefix | .ddPrefix | .edPrefix | .fdPrefix | .ixCbPrefix | .iyCbPrefix => 0

/-- The opcode fetches of an instruction, each one refresh of `R` (R107). A prefix row has none of its own. -/
def opcodeFetches : Instr → Nat
  | .nop | .exAfAf | .djnz _ | .jr _ | .jrCc _ _ | .ldDdNn _ _ | .addHlSs _ | .ldMemBcA | .ldMemDeA | .ldMemNnHl _
  | .ldMemNnA _ | .ldAMemBc | .ldAMemDe | .ldHlMemNn _ | .ldAMemNn _ | .incSs _ | .decSs _ | .incMemHl | .decMemHl
  | .ldMemHlN _ | .incR _ | .decR _ | .ldRN _ _ | .rlca | .rrca | .rla | .rra | .daa | .cpl | .scf | .ccf | .halt
  | .ldMemHlR _ | .ldRMemHl _ | .ldRR _ _ | .addAMemHl | .addAR _ | .adcAMemHl | .adcAR _ | .subMemHl | .subR _
  | .sbcAMemHl | .sbcAR _ | .andMemHl | .andR _ | .xorMemHl | .xorR _ | .orMemHl | .orR _ | .cpMemHl | .cpR _
  | .retCc _ | .popQq _ | .ret | .exx | .jpHl | .ldSpHl | .jpCcNn _ _ | .jpNn _ | .outNA _ | .inAN _ | .exSpHl
  | .exDeHl | .di | .ei | .callCcNn _ _ | .pushQq _ | .callNn _ | .addAN _ | .adcAN _ | .subN _ | .sbcAN _ | .andN _
  | .xorN _ | .orN _ | .cpN _ | .rstP _ | .redundantIxDd | .redundantIxFd | .redundantIxEd | .redundantIyDd
  | .redundantIyFd | .redundantIyEd => 1
  | .rlcMemHl | .rlcR _ | .rrcMemHl | .rrcR _ | .rlMemHl | .rlR _ | .rrMemHl | .rrR _ | .slaMemHl | .slaR _
  | .sraMemHl | .sraR _ | .sllMemHl | .sllR _ | .srlMemHl | .srlR _ | .bitMemHl _ | .bitR _ _ | .resMemHl _
  | .resR _ _ | .setMemHl _ | .setR _ _ | .inC | .inRC _ | .outC0 | .outCR _ | .sbcHlSs _ | .adcHlSs _
  | .ldMemNnDd _ _ | .ldDdMemNn _ _ | .neg _ | .reti | .retn _ | .im0 _ _ | .im1 _ | .im2 _ | .ldIA | .ldRefreshA
  | .ldAI | .ldARefresh | .rrd | .rld | .ldi | .cpi | .ini | .outi | .ldd | .cpd | .ind | .outd | .ldir | .cpir
  | .inir | .otir | .lddr | .cpdr | .indr | .otdr | .nopEd _ | .ldIxNn _ | .ldMemNnIx _ | .ldIxMemNn _ | .incIx
  | .decIx | .addIxPp _ | .incIxh | .decIxh | .ldIxhN _ | .incIxl | .decIxl | .ldIxlN _ | .incMemIx _ | .decMemIx _
  | .ldMemIxN _ _ | .haltIx | .ldMemIxR _ _ | .ldRMemIx _ _ | .ldIxhR _ | .ldIxlR _ | .ldRIxh _ | .ldRIxl _
  | .addAMemIx _ | .addAIxh | .addAIxl | .adcAMemIx _ | .adcAIxh | .adcAIxl | .subMemIx _ | .subIxh | .subIxl
  | .sbcAMemIx _ | .sbcAIxh | .sbcAIxl | .andMemIx _ | .andIxh | .andIxl | .xorMemIx _ | .xorIxh | .xorIxl
  | .orMemIx _ | .orIxh | .orIxl | .cpMemIx _ | .cpIxh | .cpIxl | .popIx | .exSpIx | .pushIx | .jpIx | .ldSpIx
  | .ixIgnored _ | .ldIyNn _ | .ldMemNnIy _ | .ldIyMemNn _ | .incIy | .decIy | .addIyPp _ | .incIyh | .decIyh
  | .ldIyhN _ | .incIyl | .decIyl | .ldIylN _ | .incMemIy _ | .decMemIy _ | .ldMemIyN _ _ | .haltIy | .ldMemIyR _ _
  | .ldRMemIy _ _ | .ldIyhR _ | .ldIylR _ | .ldRIyh _ | .ldRIyl _ | .addAMemIy _ | .addAIyh | .addAIyl | .adcAMemIy _
  | .adcAIyh | .adcAIyl | .subMemIy _ | .subIyh | .subIyl | .sbcAMemIy _ | .sbcAIyh | .sbcAIyl | .andMemIy _
  | .andIyh | .andIyl | .xorMemIy _ | .xorIyh | .xorIyl | .orMemIy _ | .orIyh | .orIyl | .cpMemIy _ | .cpIyh | .cpIyl
  | .popIy | .exSpIy | .pushIy | .jpIy | .ldSpIy | .iyIgnored _ | .bitMemIx _ _ _ | .rlcMemIx _ | .ldRRlcMemIx _ _
  | .rrcMemIx _ | .ldRRrcMemIx _ _ | .rlMemIx _ | .ldRRlMemIx _ _ | .rrMemIx _ | .ldRRrMemIx _ _ | .slaMemIx _
  | .ldRSlaMemIx _ _ | .sraMemIx _ | .ldRSraMemIx _ _ | .sllMemIx _ | .ldRSllMemIx _ _ | .srlMemIx _
  | .ldRSrlMemIx _ _ | .resMemIx _ _ | .ldRResMemIx _ _ _ | .setMemIx _ _ | .ldRSetMemIx _ _ _ | .bitMemIy _ _ _
  | .rlcMemIy _ | .ldRRlcMemIy _ _ | .rrcMemIy _ | .ldRRrcMemIy _ _ | .rlMemIy _ | .ldRRlMemIy _ _ | .rrMemIy _
  | .ldRRrMemIy _ _ | .slaMemIy _ | .ldRSlaMemIy _ _ | .sraMemIy _ | .ldRSraMemIy _ _ | .sllMemIy _
  | .ldRSllMemIy _ _ | .srlMemIy _ | .ldRSrlMemIy _ _ | .resMemIy _ _ | .ldRResMemIy _ _ _ | .setMemIy _ _
  | .ldRSetMemIy _ _ _ => 2
  | .cbPrefix | .ddPrefix | .edPrefix | .fdPrefix | .ixCbPrefix | .iyCbPrefix => 0

/-- `R` after `n` refreshes (10_state.md R27). -/
def refreshed : Nat → Byte → Byte
  | 0, v => v
  | n + 1, v => refreshed n (bumpR v)

/-- The instruction with the operation and a register (R220). -/
def AluOp.regForm : AluOp → Reg8 → Instr
  | .add, rr => .addAR rr
  | .adc, rr => .adcAR rr
  | .sub, rr => .subR rr
  | .sbc, rr => .sbcAR rr
  | .and, rr => .andR rr
  | .xor, rr => .xorR rr
  | .or, rr => .orR rr
  | .cp, rr => .cpR rr

/-- With an immediate. -/
def AluOp.immForm : AluOp → Byte → Instr
  | .add, n => .addAN n
  | .adc, n => .adcAN n
  | .sub, n => .subN n
  | .sbc, n => .sbcAN n
  | .and, n => .andN n
  | .xor, n => .xorN n
  | .or, n => .orN n
  | .cp, n => .cpN n

/-- With `(HL)`. -/
def AluOp.memForm : AluOp → Instr
  | .add => .addAMemHl
  | .adc => .adcAMemHl
  | .sub => .subMemHl
  | .sbc => .sbcAMemHl
  | .and => .andMemHl
  | .xor => .xorMemHl
  | .or => .orMemHl
  | .cp => .cpMemHl

/-- With `(XY+d)`. -/
def AluOp.idxForm : AluOp → Idx → Byte → Instr
  | .add, k, d => k.pick (.addAMemIx d) (.addAMemIy d)
  | .adc, k, d => k.pick (.adcAMemIx d) (.adcAMemIy d)
  | .sub, k, d => k.pick (.subMemIx d) (.subMemIy d)
  | .sbc, k, d => k.pick (.sbcAMemIx d) (.sbcAMemIy d)
  | .and, k, d => k.pick (.andMemIx d) (.andMemIy d)
  | .xor, k, d => k.pick (.xorMemIx d) (.xorMemIy d)
  | .or, k, d => k.pick (.orMemIx d) (.orMemIy d)
  | .cp, k, d => k.pick (.cpMemIx d) (.cpMemIy d)

/-- With `XYH`. -/
def AluOp.highForm : AluOp → Idx → Instr
  | .add, k => k.pick .addAIxh .addAIyh
  | .adc, k => k.pick .adcAIxh .adcAIyh
  | .sub, k => k.pick .subIxh .subIyh
  | .sbc, k => k.pick .sbcAIxh .sbcAIyh
  | .and, k => k.pick .andIxh .andIyh
  | .xor, k => k.pick .xorIxh .xorIyh
  | .or, k => k.pick .orIxh .orIyh
  | .cp, k => k.pick .cpIxh .cpIyh

/-- With `XYL`. -/
def AluOp.lowForm : AluOp → Idx → Instr
  | .add, k => k.pick .addAIxl .addAIyl
  | .adc, k => k.pick .adcAIxl .adcAIyl
  | .sub, k => k.pick .subIxl .subIyl
  | .sbc, k => k.pick .sbcAIxl .sbcAIyl
  | .and, k => k.pick .andIxl .andIyl
  | .xor, k => k.pick .xorIxl .xorIyl
  | .or, k => k.pick .orIxl .orIyl
  | .cp, k => k.pick .cpIxl .cpIyl

/-- The rotate or shift of a register (R284). -/
def RotOp.regForm : RotOp → Reg8 → Instr
  | .rlc, q => .rlcR q
  | .rrc, q => .rrcR q
  | .rl, q => .rlR q
  | .rr, q => .rrR q
  | .sla, q => .slaR q
  | .sra, q => .sraR q
  | .sll, q => .sllR q
  | .srl, q => .srlR q

/-- Of `(HL)`. -/
def RotOp.memForm : RotOp → Instr
  | .rlc => .rlcMemHl
  | .rrc => .rrcMemHl
  | .rl => .rlMemHl
  | .rr => .rrMemHl
  | .sla => .slaMemHl
  | .sra => .sraMemHl
  | .sll => .sllMemHl
  | .srl => .srlMemHl

/-- Of `(XY+d)`. -/
def RotOp.idxForm : RotOp → Idx → Byte → Instr
  | .rlc, k, d => k.pick (.rlcMemIx d) (.rlcMemIy d)
  | .rrc, k, d => k.pick (.rrcMemIx d) (.rrcMemIy d)
  | .rl, k, d => k.pick (.rlMemIx d) (.rlMemIy d)
  | .rr, k, d => k.pick (.rrMemIx d) (.rrMemIy d)
  | .sla, k, d => k.pick (.slaMemIx d) (.slaMemIy d)
  | .sra, k, d => k.pick (.sraMemIx d) (.sraMemIy d)
  | .sll, k, d => k.pick (.sllMemIx d) (.sllMemIy d)
  | .srl, k, d => k.pick (.srlMemIx d) (.srlMemIy d)

/-- Of `(XY+d)` with the copy to a register. -/
def RotOp.copyForm : RotOp → Idx → Reg8 → Byte → Instr
  | .rlc, k, q, d => k.pick (.ldRRlcMemIx q d) (.ldRRlcMemIy q d)
  | .rrc, k, q, d => k.pick (.ldRRrcMemIx q d) (.ldRRrcMemIy q d)
  | .rl, k, q, d => k.pick (.ldRRlMemIx q d) (.ldRRlMemIy q d)
  | .rr, k, q, d => k.pick (.ldRRrMemIx q d) (.ldRRrMemIy q d)
  | .sla, k, q, d => k.pick (.ldRSlaMemIx q d) (.ldRSlaMemIy q d)
  | .sra, k, q, d => k.pick (.ldRSraMemIx q d) (.ldRSraMemIy q d)
  | .sll, k, q, d => k.pick (.ldRSllMemIx q d) (.ldRSllMemIy q d)
  | .srl, k, q, d => k.pick (.ldRSrlMemIx q d) (.ldRSrlMemIy q d)

end Sys2Proof.Machine
end

