-- ==== Sys2Proof/Certificates/Slice0/Obligations.lean ====
section
/-! DEFINITION. The statements for the provers. Each docstring says which rules of spec/ it formalises. -/

open Sys2Proof Sys2Proof.Machine

/-- O1 (R90, R91, R99, R100, R101, R104, R110, log 12, log 17). For every well-formed instruction that is no prefix row
of the opcode table and whatever bytes follow it, the decoder reads the bytes of its encoding as that instruction
and consumes its size. -/
def Obligations.DecodeEncode : Prop :=
  ∀ (j : Instr) (rest : List Byte), j.wf = true → j.isPrefixRow = false →
    decode (j.encode ++ rest) = .ok (j, j.size)

/-- O2 (R106, R105, R110, R103, log 17). Whatever four bytes stand at an address, the decoder gives a well-formed
instruction that is no prefix row, consumes its size, 1 to 4 bytes, and the four bytes begin with that instruction's
encoding: no bit is dropped and no byte sequence is refused. -/
def Obligations.EncodeDecode : Prop :=
  ∀ b0 b1 b2 b3 : Byte,
    let p := decode4 b0 b1 b2 b3
    p.1.wf = true ∧ p.1.isPrefixRow = false ∧ p.2 = p.1.size ∧ 1 ≤ p.2 ∧ p.2 ≤ 4 ∧
      ∃ rest, p.1.encode ++ rest = [b0, b1, b2, b3]

/-- O3 (R130, R160, R197, R223, R261, R286, R312, R338, R361, R384, R387, R389). One instruction of each family, its
bytes written out from the Encoding line of its rule, decodes to that instruction; a list that is a prefix alone
decodes to the prefix row (the model's choice, log 11). -/
def Obligations.DecodeWords : Prop :=
  decode [0x41] = .ok (.ldRR .b .c, 1) ∧ decode [0x31, 0x26, 0xA9] = .ok (.ldDdNn .sp 0xA926, 3) ∧
  decode [0xED, 0xB0] = .ok (.ldir, 2) ∧ decode [0xDD, 0x96, 0x03] = .ok (.subMemIx 3, 3) ∧
  decode [0xED, 0x5A] = .ok (.adcHlSs .de, 2) ∧ decode [0xFD, 0xCB, 0xFE, 0x0E] = .ok (.rrcMemIy 0xFE, 4) ∧
  decode [0xDD, 0xCB, 0x01, 0x74] = .ok (.bitMemIx 6 4 1, 4) ∧ decode [0xFC, 0x34, 0x12] = .ok (.callCcNn .m 0x1234, 3) ∧
  decode [0xED, 0x78] = .ok (.inRC .a, 2) ∧ decode [0xED, 0x6E] = .ok (.im0 true true, 2) ∧
  decode [0xDD, 0xFD] = .ok (.redundantIxFd, 1) ∧ decode [0xDD, 0x00] = .ok (.ixIgnored .nop, 2) ∧
  decode [0xDD, 0xCB] = .ok (.ixCbPrefix, 2)

/-- O4 (R400, R401, R402, R103, R6, log 8, log 9, log 10, log 19). With a configuration that meets R6 a step is the
device's move and then the engine step, whatever is pending; with any other it is refused. When no reset, NMI or
acceptable interrupt is pending and the CPU is not halted, the engine step is exec of the instruction that the bytes
at PC decode to, begun with IntBlocked cleared and the prefix modes set, and ended with the modes cleared. That the
whole step and not the engine step is refused is log 19, that one step is the machine step log 8, that the bytes are
looked at before the fetches log 9, where the modes are set log 10. -/
def Obligations.StepRunsDecoded : Prop :=
  (∀ s : State,
    (usable s.cfg = true → step s = s.deviceStep.engineStep) ∧
    (usable s.cfg = false → step s = .refused .badConfiguration)) ∧
  (∀ (s : State) (j : Instr) (n : Nat),
    decode [s.peek s.pc, s.peek (s.pc + 1), s.peek (s.pc + 2), s.peek (s.pc + 3)] = .ok (j, n) →
    usable s.cfg = true → s.reqReset = false → s.reqNmi = false → s.halted = false → s.deviceStep.acceptsInt = false →
    step s = match exec j s.deviceStep.beginInstr with
      | .next t => .next t.endInstr
      | .fault e => .fault e
      | .refused e => .refused e)

/-- O5 (R401). A pending reset is performed whatever else is pending; else a pending NMI is served; else a maskable
interrupt that is pending with IFF1 set and IntBlocked clear; else a halted CPU runs a halted step; else an
instruction runs. -/
def Obligations.EnginePriority : Prop :=
  ∀ s : State,
    (s.reqReset = true → s.engineStep = .next s.resetAction) ∧
    (s.reqReset = false → s.reqNmi = true → s.engineStep = .next s.serviceNmi) ∧
    (s.reqReset = false → s.reqNmi = false →
      (s.reqInt = true ∧ s.iff1 = true ∧ s.intBlocked = false → s.engineStep = s.serviceInt) ∧
      (¬ (s.reqInt = true ∧ s.iff1 = true ∧ s.intBlocked = false) →
        (s.halted = true → s.engineStep = .next s.haltedStep) ∧
        (s.halted = false → s.engineStep = s.decodeAndExecute)))

/-- O6 (R450, R451, log 5, log 10). Whatever the state, the engine step after a reset request gives the state that the
host's Reset() gives at once, and so does the engine step of a state with StateFlags.Reset set; a second request
changes nothing. That state has the registers, the interrupt state and the request bits zeroed and the device re-
armed to the current frame, and IX, IY, the shadow pairs, Tacts, memory and the configuration as they were. That the
port history stays is the model's choice (log 5; R450 does not speak of it), that the held displacement is absent
too (log 10). -/
def Obligations.ResetAction : Prop :=
  ∀ s : State,
    let t := s.hostReset
    s.requestReset.engineStep = .next t ∧ (s.reqReset = true → s.engineStep = .next t) ∧
    s.requestReset.requestReset = s.requestReset ∧
    t.af = 0 ∧ t.bc = 0 ∧ t.de = 0 ∧ t.hl = 0 ∧ t.i = 0 ∧ t.r = 0 ∧ t.sp = 0 ∧ t.pc = 0 ∧ t.mw = 0 ∧
    t.iff1 = false ∧ t.iff2 = false ∧ t.im = .im0 ∧ t.intBlocked = false ∧
    t.reqReset = false ∧ t.reqInt = false ∧ t.reqNmi = false ∧ t.halted = false ∧
    t.prefixMode = .none ∧ t.indexMode = .none ∧ t.heldDisp = none ∧
    t.devRaised = false ∧ t.devRevoked = false ∧ t.devFrame = s.frameIndex ∧
    t.ix = s.ix ∧ t.iy = s.iy ∧ t.afAlt = s.afAlt ∧ t.bcAlt = s.bcAlt ∧ t.deAlt = s.deAlt ∧ t.hlAlt = s.hlAlt ∧
    t.tacts = s.tacts ∧ t.mem = s.mem ∧ t.ports = s.ports ∧ t.cfg = s.cfg

/-- O7 (R452). Every register, shadow pair, IX, IY, MW, flip-flop, IM, IntBlocked, StateFlags bit and Tacts of the reset
state is 0, the modes are None, the device is Idle with FrameIndex 0, and the reset action maps this state to
itself. -/
def Obligations.ResetState : Prop :=
  let s := State.reset
  s.af = 0 ∧ s.bc = 0 ∧ s.de = 0 ∧ s.hl = 0 ∧ s.afAlt = 0 ∧ s.bcAlt = 0 ∧ s.deAlt = 0 ∧ s.hlAlt = 0 ∧
  s.ix = 0 ∧ s.iy = 0 ∧ s.sp = 0 ∧ s.pc = 0 ∧ s.i = 0 ∧ s.r = 0 ∧ s.mw = 0 ∧ s.iff1 = false ∧ s.iff2 = false ∧
  s.im = .im0 ∧ s.intBlocked = false ∧ s.reqReset = false ∧ s.reqInt = false ∧ s.reqNmi = false ∧ s.halted = false ∧
  s.tacts = 0 ∧ s.prefixMode = .none ∧ s.indexMode = .none ∧ s.devRaised = false ∧ s.devRevoked = false ∧
  s.devFrame = 0 ∧ s.resetAction = s

/-- O8 (R405). Halted, with no reset, no NMI and no acceptable interrupt, the engine step adds 4 to Tacts, counts the
low 7 bits of R modulo 128, keeps bit 7 of R, and changes nothing else, PC included. -/
def Obligations.HaltedStep : Prop :=
  ∀ s : State, s.halted = true → s.reqReset = false → s.reqNmi = false →
    ¬ (s.reqInt = true ∧ s.iff1 = true ∧ s.intBlocked = false) →
    ∃ t, s.engineStep = .next t ∧ t = { s with tacts := s.tacts + 4, r := t.r } ∧
      t.r.getLsbD 7 = s.r.getLsbD 7 ∧ t.r.toNat % 128 = (s.r.toNat + 1) % 128

/-- O9 (R414, R404). With an NMI and no reset pending, the engine step clears the request and IFF1, leaves the halted
state, refreshes R once, pushes the address of the next instruction, enters 0066 and takes 11 tacts without
contention; IFF2, IntBlocked, StateFlags.Int and everything else stay. -/
def Obligations.NmiAccepted : Prop :=
  ∀ s : State, s.mem.wf = true → s.reqReset = false → s.reqNmi = true →
    ∃ t, s.engineStep = .next t ∧
      t = { s with
        reqNmi := false, halted := false, iff1 := false, r := bumpR s.r, sp := s.sp - 2, pc := 0x0066, mw := 0x0066
        mem := t.mem, tacts := t.tacts } ∧
      StoresWord s t (s.sp - 2) (returnAddress s) ∧
      (s.Uncontended → t.tacts = s.tacts + 11)

/-- O10 (R410, R411, R412, R413). With StateFlags.Int and IFF1 set, IntBlocked clear and no reset or NMI pending, the
engine step clears Int, IFF1 and IFF2, leaves the halted state, refreshes R once, pushes the address of the next
instruction and enters: mode 1 at 0038 in 13 tacts; mode 2 at the word at I ++ INT_BUS_BYTE, read after the push, in
19; mode 0 at INT_BUS_BYTE & 38 in 13 when the bus byte is an RST opcode, else there is no step. -/
def Obligations.InterruptAccepted : Prop :=
  ∀ s : State, s.mem.wf = true → s.reqReset = false → s.reqNmi = false →
    s.reqInt = true → s.iff1 = true → s.intBlocked = false →
    (s.im = .im1 → ∃ t, s.engineStep = .next t ∧ EntersInt s t 0x0038 13) ∧
    (s.im = .im2 → ∃ t, s.engineStep = .next t ∧ EntersInt s t (t.peekWord (mkWord s.i s.cfg.intBusByte)) 19) ∧
    (s.im = .im0 → s.cfg.intBusByte &&& 0xC7 = 0xC7 →
      ∃ t, s.engineStep = .next t ∧ EntersInt s t (mkWord 0 (s.cfg.intBusByte &&& 0x38)) 13) ∧
    (s.im = .im0 → s.cfg.intBusByte &&& 0xC7 ≠ 0xC7 → s.engineStep = .refused (.busByteIsNoRst s.cfg.intBusByte))

/-- O11 (R383, R402, R403, R460). When EI runs as the instruction of an engine step, it sets IFF1, IFF2 and IntBlocked;
at the boundary after it a pending maskable interrupt is not accepted and an instruction runs, and after that
instruction IntBlocked is clear again unless it was EI, EI behind an ignored prefix, or a redundant prefix. -/
def Obligations.EiDelay : Prop :=
  ∀ s : State, s.instrAt = .ei → s.halted = false → s.reqReset = false → s.reqNmi = false → s.acceptsInt = false →
    ∃ t, s.engineStep = .next t ∧ t.iff1 = true ∧ t.iff2 = true ∧ t.intBlocked = true ∧ t.pc = s.pc + 1 ∧
      t.acceptsInt = false ∧ t.engineStep = t.decodeAndExecute ∧
      ∀ u, t.engineStep = .next u → coreOf t.instrAt ≠ .ei → isRedundant t.instrAt = false → u.intBlocked = false

/-- O12 (R40, R402, R383, R387). After an instruction step IntBlocked is 1 exactly when the instruction was EI, also
behind an ignored prefix, or a redundant index prefix, whatever it was before. -/
def Obligations.BlockedOnlyBy : Prop :=
  ∀ s t : State, s.decodeAndExecute = .next t →
    (t.intBlocked = true ↔ coreOf s.instrAt = .ei ∨ isRedundant s.instrAt = true)

/-- O13 (R387, R103). When the byte at PC is DD or FD and the next is DD, FD or ED, the instruction step moves PC by
one, refreshes R once, sets IntBlocked, takes 4 tacts without contention, leaves no prefix mode and changes nothing
else. -/
def Obligations.RedundantPrefixStep : Prop :=
  ∀ s : State, s.Inv → (s.peek s.pc = 0xDD ∨ s.peek s.pc = 0xFD) →
    (s.peek (s.pc + 1) = 0xDD ∨ s.peek (s.pc + 1) = 0xFD ∨ s.peek (s.pc + 1) = 0xED) →
    ∃ t, s.decodeAndExecute = .next t ∧
      t = { s with intBlocked := true, pc := s.pc + 1, r := bumpR s.r, tacts := t.tacts } ∧
      (s.Uncontended → t.tacts = s.tacts + 4)

/-- O14 (R421, R422, R423). CheckForInterrupt(ft): a revoked device stays; before INTERRUPT_TACT nothing changes; after
INTERRUPT_TACT + LONGEST_OP_TACTS the device is revoked and Int cleared, also from Idle; inside the window an Idle
device is raised and Int set, a raised one stays. A machine step whose frame index differs from the device's makes
the device Idle and records the frame, and leaves Int; the engine reset makes it Idle too. -/
def Obligations.InterruptDevice : Prop :=
  (∀ (s : State) (ft : Nat),
    (s.devRevoked = true → s.checkForInterrupt ft = s) ∧
    (s.devRevoked = false → ft < s.cfg.interruptTact → s.checkForInterrupt ft = s) ∧
    (s.devRevoked = false → s.cfg.interruptTact ≤ ft → s.cfg.interruptTact + s.cfg.longestOpTacts < ft →
      s.checkForInterrupt ft = { s with devRevoked := true, reqInt := false }) ∧
    (s.devRevoked = false → s.cfg.interruptTact ≤ ft → ft ≤ s.cfg.interruptTact + s.cfg.longestOpTacts →
      (s.devRaised = true → s.checkForInterrupt ft = s) ∧
      (s.devRaised = false → s.checkForInterrupt ft = { s with devRaised := true, reqInt := true }))) ∧
  (∀ s : State,
    (s.frameIndex = s.devFrame → s.deviceStep = s.checkForInterrupt s.frameTact) ∧
    (s.frameIndex ≠ s.devFrame →
      s.deviceStep = ({ s with devRaised := false, devRevoked := false, devFrame := s.frameIndex }).checkForInterrupt
        s.frameTact) ∧
    (s.resetAction.devRaised = false ∧ s.resetAction.devRevoked = false ∧ s.resetAction.devFrame = s.frameIndex))

/-- O15 (R424). In a step that stays in the device's frame, with no reset pending: a raised device stays raised and the
step does not set StateFlags.Int again, and a revoked device stays revoked and does not set it. -/
def Obligations.OncePerFrame : Prop :=
  ∀ s t : State, step s = .next t → s.frameIndex = s.devFrame → s.reqReset = false →
    (s.devRaised = true → t.devRaised = true ∧ (t.reqInt = true → s.reqInt = true)) ∧
    (s.devRevoked = true → t.devRevoked = true ∧ (t.reqInt = true → s.reqInt = true))

/-- O16 (R41, R404, R410, R381). An engine step that answers a next state leaves no request bit (Reset, Int, Nmi) set
that was not set before; Halted is set by it only when the instruction it ran is HALT, plain or behind an ignored
prefix. -/
def Obligations.RequestBits : Prop :=
  ∀ s t : State, s.engineStep = .next t →
    (t.reqReset = true → s.reqReset = true) ∧ (t.reqInt = true → s.reqInt = true) ∧ (t.reqNmi = true → s.reqNmi = true) ∧
    (t.halted = true → s.halted = true ∨ s.instrAt = .halt ∨ s.instrAt = .haltIx ∨ s.instrAt = .haltIy)

/-- O17 (R68, R60, R5, R78, log 1). Whatever the state, when a step answers a next state, every byte whose address is
ROM reads as before, and the configuration is the same: no instruction, no interrupt and no reset writes the ROM. -/
def Obligations.RomAndConfigFixed : Prop :=
  ∀ s t : State, step s = .next t →
    t.cfg = s.cfg ∧ ∀ x : Word, s.isRom x = true → t.peek x = s.peek x

/-- O18 (R42, R461, R60, R103, log 6, log 10). From every state whose memory is in its canonical form and whose prefix
modes are None, a step that answers a next state gives such a state. -/
def Obligations.InvStep : Prop :=
  ∀ s t : State, s.Inv → step s = .next t → t.Inv

/-- O19 (R42, R45, R452, log 6, log 10). Reset memory is in its canonical form and the prefix modes are None. -/
def Obligations.InvReset : Prop :=
  State.reset.Inv

/-- O20 (R72, R73, R471, R70, R71, R5, log 3). Every memory or port access adds to Tacts, before its base tacts, what
CONTENTION gives at the frame tact at which it begins if its address or port is contended, and else nothing; so do
the accesses of NOP, LD r,n, LD r,(HL), LD (HL),r, LD r,(XY+d), INC (HL), PUSH, OUT (n),A and IN A,(n), each at the
tact where the earlier ones have led. The table is a list of bands (log 3): a tact before or after a band's window,
or in the border part of one of its scanlines, is not its own, and is 0 where no band has it; within the active part
of a scanline the wait has period 8, also across scanlines where the phase runs on. Every table on a frame is some
list of bands, and the default list is the table of R72. -/
def Obligations.Contention : Prop :=
  (∀ (s : State) (x : Word) (v : Byte),
    let wait (hit : Bool) : Nat := if hit then contentionAt s.cfg.contention (s.tacts.toNat % s.cfg.frameTacts) else 0
    s.waitMem x = wait (s.contendedAddr x) ∧ s.waitPort x = wait (s.contendedPort x) ∧
    s.fetchOpcode.tacts = s.tacts + BitVec.ofNat 64 (s.waitMem s.pc) + 4 ∧
    s.fetchByte.tacts = s.tacts + BitVec.ofNat 64 (s.waitMem s.pc) + 3 ∧
    (s.readCycle x).tacts = s.tacts + BitVec.ofNat 64 (s.waitMem x) + 3 ∧
    (s.writeByte x v).tacts = s.tacts + BitVec.ofNat 64 (s.waitMem x) + 3 ∧
    s.portTact x = s.tacts + BitVec.ofNat 64 (s.waitPort x) ∧
    (s.portInCycle x).tacts = s.portTact x + 4 ∧ (s.portOut x v).tacts = s.portTact x + 4) ∧
  (∀ (s : State) (rr : Reg8) (qq : PairQ) (n d : Byte) (k : Idx),
    let mem (x : Word) (begins : Tact) : Tact := afterContend s.cfg (s.contendedAddr x) begins
    let port (p : Word) (begins : Tact) : Tact := afterContend s.cfg (s.contendedPort p) begins
    let t1 := mem s.pc s.tacts + 4
    let t2 := mem (s.pc + 1) t1
    let x := s.xy k + sext16 d
    let read := mem s.hl t1 + 3
    let pushed := mem (s.sp - 1) (t1 + 1) + 3
    let q := mkWord s.a n
    Runs .nop s (fun t => t.tacts = t1) ∧
    Runs (.ldRN rr n) s (fun t => t.tacts = t2 + 3) ∧
    Runs (.ldRMemHl rr) s (fun t => t.tacts = read) ∧
    Runs (.ldMemHlR rr) s (fun t => t.tacts = read) ∧
    Runs (k.pick (.ldRMemIx rr d) (.ldRMemIy rr d)) s (fun t =>
      t.tacts = mem x (mem (s.pc + 2) (t2 + 4) + 3 + 5) + 3) ∧
    Runs .incMemHl s (fun t => t.tacts = mem s.hl (read + 1) + 3) ∧
    Runs (.pushQq qq) s (fun t => t.tacts = mem (s.sp - 2) pushed + 3) ∧
    Runs (.outNA n) s (fun t => t.tacts = port q (t2 + 3) + 4 ∧
      t.ports = s.ports ++ [PortEvent.output q s.a (port q (t2 + 3))]) ∧
    Runs (.inAN n) s (fun t => t.tacts = port q (t2 + 3) + 4)) ∧
  (∀ (g : ContentionBand) (rest : List ContentionBand) (ft line p : Nat),
    let tact (p : Nat) : Nat := g.start + line * g.lineTacts + p
    contentionAt [] ft = 0 ∧
    (ft < g.start ∨ g.start + g.lines * g.lineTacts ≤ ft → contentionAt (g :: rest) ft = contentionAt rest ft) ∧
    (p < g.lineTacts → g.activeTacts ≤ p → contentionAt (g :: rest) (tact p) = contentionAt rest (tact p)) ∧
    (line < g.lines → p + 8 < g.activeTacts → p + 8 < g.lineTacts →
      contentionAt (g :: rest) (tact (p + 8)) = contentionAt (g :: rest) (tact p)) ∧
    (line < g.lines → p < g.activeTacts → p < g.lineTacts →
      contentionAt (g :: rest) (tact p) = g.pattern.getD ((p + line * g.phaseStep) % 8) 0)) ∧
  (∀ (f : Nat → Nat) (frame : Nat), ∃ k, ∀ ft < frame, contentionAt k ft = f ft) ∧
  (∀ ft : Nat, contentionAt Config.base.contention ft =
    if ft < 14335 ∨ 14335 + 192 * 224 ≤ ft then 0
    else
      let pos := (ft - 14335) % 224
      if 128 ≤ pos then 0 else [6, 5, 4, 3, 2, 1, 0, 0].getD (pos % 8) 0)

/-- O21 (R69, R75, R443, log 5). When a step answers a next state, the port history is the old one followed by at most
one new event. That reads and writes stand in one list, that it is a field of State and that a reset keeps it are
the model's choice (log 5): R69 and R443 do not give its form and R450 does not speak of it. -/
def Obligations.PortHistory : Prop :=
  ∀ s t : State, step s = .next t → ∃ new : List PortEvent, t.ports = s.ports ++ new ∧ new.length ≤ 1

/-- O22 (R473, R470, R471, R104, log 23). For every well-formed instruction that is no prefix row, run from any state
without contention, exec answers a next state whose Tacts is the old one plus the count the timing table R473 gives
it, taken or not, repeating or last. Of the 20 of BIT b,(XY+d) the Cycles line gives 19; where the model puts the
last is log 23. A prefix row has no count of its own; contended runs are in Obligations.Contention. -/
def Obligations.TactsTable : Prop :=
  ∀ (j : Instr) (s : State), s.Uncontended → j.wf = true → j.isPrefixRow = false →
    Runs j s fun t => t.tacts = s.tacts + BitVec.ofNat 64 (tactsIn s j)

/-- O23 (R474). Without contention an engine step that answers a next state takes at most 23 tacts; INC and DEC of
(XY+d), EX (SP),XY and the indexed bit forms that write memory complete in exactly 23; a redundant prefix completes
in 4; 23 is the default of LONGEST_OP_TACTS. -/
def Obligations.LongestStep : Prop :=
  (∀ s t : State, s.Uncontended → s.engineStep = .next t → ∃ n ≤ 23, t.tacts = s.tacts + BitVec.ofNat 64 n) ∧
  (∀ (s : State) (k : Idx) (d : Byte) (op : RotOp) (rr : Reg8) (b : BitVec 3), s.Uncontended →
    let takes (n : Nat) (j : Instr) : Prop := Runs j s fun t => t.tacts = s.tacts + BitVec.ofNat 64 n
    takes 23 (k.pick (.incMemIx d) (.incMemIy d)) ∧ takes 23 (k.pick (.decMemIx d) (.decMemIy d)) ∧
    takes 23 (k.pick .exSpIx .exSpIy) ∧ takes 23 (op.idxForm k d) ∧ takes 23 (op.copyForm k rr d) ∧
    takes 23 (k.pick (.setMemIx b d) (.setMemIy b d)) ∧ takes 23 (k.pick (.resMemIx b d) (.resMemIy b d)) ∧
    takes 23 (k.pick (.ldRSetMemIx rr b d) (.ldRSetMemIy rr b d)) ∧
    takes 23 (k.pick (.ldRResMemIx rr b d) (.ldRResMemIy rr b d)) ∧
    ∀ j, isRedundant j = true → takes 4 j) ∧
  Config.base.longestOpTacts = 23

/-- O24 (R107, R27, R147). Every well-formed instruction that is no prefix row, LD R,A apart (plain it writes R itself),
leaves R refreshed once for a base opcode or a redundant prefix and twice for a prefixed one. -/
def Obligations.RefreshTable : Prop :=
  ∀ (j : Instr) (s : State), j.wf = true → j.isPrefixRow = false → j ≠ .ldRefreshA →
    Runs j s fun t => t.r = refreshed (opcodeFetches j) s.r

/-- O25 (R25, R110, R463). Every well-formed instruction that is no prefix row, no jump, call, return or restart, no
repeating block instruction and no HALT leaves PC at its own address plus its size, modulo 65536. -/
def Obligations.SequentialPc : Prop :=
  ∀ (j : Instr) (s : State), j.wf = true → j.isPrefixRow = false → mayTransfer j = false →
    Runs j s fun t => t.pc = s.pc + BitVec.ofNat 16 j.size

/-- O26 (R22, R23, R26, R38, R39). When a term that is no prefix row answers a next state: AF' differs only after EX
AF,AF', BC', DE', HL' only after EXX, I only after LD I,A, IM only after an IM instruction, IFF1 or IFF2 only after
DI, EI, RETI or RETN, each also behind an ignored prefix; IX and IY differ only after an instruction whose first
byte is DD or FD. -/
def Obligations.PrivateRegisters : Prop :=
  ∀ (j : Instr) (s t : State), j.isPrefixRow = false → exec j s = .next t →
    (t.afAlt ≠ s.afAlt → coreOf j = .exAfAf) ∧
    (t.bcAlt ≠ s.bcAlt ∨ t.deAlt ≠ s.deAlt ∨ t.hlAlt ≠ s.hlAlt → coreOf j = .exx) ∧
    (t.i ≠ s.i → coreOf j = .ldIA) ∧
    (t.im ≠ s.im → (∃ b5 b3, coreOf j = .im0 b5 b3) ∨ (∃ b5, coreOf j = .im1 b5) ∨ ∃ b5, coreOf j = .im2 b5) ∧
    (t.iff1 ≠ s.iff1 ∨ t.iff2 ≠ s.iff2 →
      coreOf j = .di ∨ coreOf j = .ei ∨ coreOf j = .reti ∨ ∃ copy, coreOf j = .retn copy) ∧
    (t.ix ≠ s.ix ∨ t.iy ≠ s.iy → j.encode.head? = some 0xDD ∨ j.encode.head? = some 0xFD)

/-- O27 (R28, R29, R311). Two runs of a well-formed instruction other than BIT b,(HL) and the prefix rows, from states
that differ in MW alone, end in states that differ at most in MW: no register, flag, memory byte, port access or
tact depends on it. -/
def Obligations.MwOnlyReadByBit : Prop :=
  ∀ (j : Instr) (s t : State) (w : Word), j.wf = true → j.isPrefixRow = false → (∀ b, j ≠ .bitMemHl b) →
    exec j s = .next t → ∃ w', exec j { s with mw := w } = .next { t with mw := w' }

/-- O28 (R408, R106, R430, log 7). No well-formed instruction, prefix rows included, faults or is refused, whatever the
state: the engine has no synchronous exception. -/
def Obligations.ExecTotal : Prop :=
  ∀ (j : Instr) (s : State), j.wf = true → ∃ t, exec j s = .next t

/-- O29 (R6, R106, R408, R413, log 7, log 19). With a configuration that meets R6, and a bus byte that is an RST opcode
when the mode is 0, every step answers a next state; a step never faults (the model's type of faults is empty, log
7); a configuration that breaks R6 is refused, by the machine step (log 19). -/
def Obligations.StepTotal : Prop :=
  ∀ s : State,
    (s.cfg.interruptTact + s.cfg.longestOpTacts < s.cfg.frameTacts →
      (s.im = .im0 → s.cfg.intBusByte &&& 0xC7 = 0xC7) → ∃ t, step s = .next t) ∧
    (∀ e, step s ≠ .fault e) ∧
    (¬ (s.cfg.interruptTact + s.cfg.longestOpTacts < s.cfg.frameTacts) → step s = .refused .badConfiguration)

/-- O30 (R440). SetTacts sets Tacts to any value; SetInterruptMode sets IM to 0, 1 or 2 and refuses any other value;
BlockInterrupt sets IntBlocked; after SetTacts the frame index is computed from the new Tacts, and after
BlockInterrupt the maskable interrupt is not accepted. -/
def Obligations.DebugHooks : Prop :=
  ∀ (s : State) (x : Tact) (m : Nat),
    s.setTacts x = { s with tacts := x } ∧
    (s.setTacts x).frameIndex = BitVec.ofNat 64 (x.toNat / s.cfg.frameTacts) ∧
    s.setInterruptMode 0 = .next { s with im := .im0 } ∧ s.setInterruptMode 1 = .next { s with im := .im1 } ∧
    s.setInterruptMode 2 = .next { s with im := .im2 } ∧ (2 < m → s.setInterruptMode m = .refused (.badInterruptMode m)) ∧
    s.hostBlockInterrupt = { s with intBlocked := true } ∧ s.hostBlockInterrupt.acceptsInt = false

/-- O31 (R21, R23, R20, R102). The first-named register of a pair is its high byte; a register, a pair, an index
register or an index half written reads back as written, and a half written changes that half of its pair. Each
write is given as a whole state: writing a register changes it alone, writing a pair its two halves alone, writing
SP, IX or IY that register alone, and writing an index half keeps the other half of that index register. -/
def Obligations.RegisterAliasing : Prop :=
  ∀ (s : State) (rd rs : Reg8) (k : Idx) (rx : RegX) (v : Byte) (w : Word) (dd : Pair) (qq : PairQ),
    s.af = s.a ++ s.f ∧ s.bc = s.b ++ s.c ∧ s.de = s.d ++ s.e ∧ s.hl = s.h ++ s.l ∧
    (s.setR8 rd v).r8 rs = (if rs = rd then v else s.r8 rs) ∧
    (s.setPair dd w).pair dd = w ∧ (s.setPairQ qq w).pairQ qq = w ∧ (s.setXy k w).xy k = w ∧
    (s.setRx k rx v).rx k rx = v ∧
    s.setR8 .b v = { s with b := v } ∧ s.setR8 .c v = { s with c := v } ∧ s.setR8 .d v = { s with d := v } ∧
    s.setR8 .e v = { s with e := v } ∧ s.setR8 .h v = { s with h := v } ∧ s.setR8 .l v = { s with l := v } ∧
    s.setR8 .a v = { s with a := v } ∧
    s.setPair .bc w = { s with b := hi w, c := lo w } ∧ s.setPair .de w = { s with d := hi w, e := lo w } ∧
    s.setPair .hl w = { s with h := hi w, l := lo w } ∧ s.setPair .sp w = { s with sp := w } ∧
    s.setPairQ .bc w = { s with b := hi w, c := lo w } ∧ s.setPairQ .de w = { s with d := hi w, e := lo w } ∧
    s.setPairQ .hl w = { s with h := hi w, l := lo w } ∧ s.setPairQ .af w = { s with a := hi w, f := lo w } ∧
    s.setHl w = { s with h := hi w, l := lo w } ∧
    s.setXy .ix w = { s with ix := w } ∧ s.setXy .iy w = { s with iy := w } ∧
    s.setRx k .b v = { s with b := v } ∧ s.setRx k .c v = { s with c := v } ∧ s.setRx k .d v = { s with d := v } ∧
    s.setRx k .e v = { s with e := v } ∧ s.setRx k .a v = { s with a := v } ∧
    s.setRx k .xh v = s.setXy k (mkWord v (lo (s.xy k))) ∧ s.setRx k .xl v = s.setXy k (mkWord (hi (s.xy k)) v) ∧
    (s.setR8 .b v).bc = mkWord v s.c ∧ (s.setR8 .c v).bc = mkWord s.b v ∧
    (s.setR8 .d v).de = mkWord v s.e ∧ (s.setR8 .e v).de = mkWord s.d v ∧
    (s.setR8 .h v).hl = mkWord v s.l ∧ (s.setR8 .l v).hl = mkWord s.h v ∧
    (s.setRx k .xh v).xy k = mkWord v (lo (s.xy k)) ∧ (s.setRx k .xl v).xy k = mkWord (hi (s.xy k)) v ∧
    (s.setHl w).h = hi w ∧ (s.setHl w).l = lo w ∧ hi (mkWord v (lo w)) = v ∧ lo (mkWord (hi w) v) = v

/-- O32 (R130, R131, R132, R133). LD r,r', LD r,n, LD r,(HL) and LD r,(XY+d) complete: the destination takes the source,
(XY+d) also writes the address to MW, PC moves past the instruction, and every other register, flag, special
register and byte of memory stays. -/
def Obligations.LoadRegister : Prop :=
  ∀ (s : State) (rd rs : Reg8) (n d : Byte) (k : Idx),
    Runs (.ldRR rd rs) s (fun t => t = (s.setR8 rd (s.r8 rs)).ran t ∧ t.pc = s.pc + 1) ∧
    Runs (.ldRN rd n) s (fun t => t = (s.setR8 rd n).ran t ∧ t.pc = s.pc + 2) ∧
    Runs (.ldRMemHl rd) s (fun t => t = (s.setR8 rd (s.peek s.hl)).ran t ∧ t.pc = s.pc + 1) ∧
    Runs (k.pick (.ldRMemIx rd d) (.ldRMemIy rd d)) s (fun t =>
      t = ({ s with mw := s.xy k + sext16 d }.setR8 rd (s.peek (s.xy k + sext16 d))).ran t ∧ t.pc = s.pc + 3)

/-- O33 (R148, R149, R102). LD XYH and LD XYL from a register, an index half or an immediate write that half and keep
the other; LD r from a half writes r; PC moves past the instruction and everything else stays. -/
def Obligations.LoadIndexHalf : Prop :=
  ∀ (s : State) (rx : RegX) (rr : Reg8) (n : Byte) (k : Idx),
    Runs (k.pick (.ldIxhR rx) (.ldIyhR rx)) s (fun t =>
      t = (s.setXy k (mkWord (s.rx k rx) (lo (s.xy k)))).ran t ∧ t.pc = s.pc + 2) ∧
    Runs (k.pick (.ldIxlR rx) (.ldIylR rx)) s (fun t =>
      t = (s.setXy k (mkWord (hi (s.xy k)) (s.rx k rx))).ran t ∧ t.pc = s.pc + 2) ∧
    Runs (k.pick (.ldRIxh rr) (.ldRIyh rr)) s (fun t => t = (s.setR8 rr (hi (s.xy k))).ran t ∧ t.pc = s.pc + 2) ∧
    Runs (k.pick (.ldRIxl rr) (.ldRIyl rr)) s (fun t => t = (s.setR8 rr (lo (s.xy k))).ran t ∧ t.pc = s.pc + 2) ∧
    Runs (k.pick (.ldIxhN n) (.ldIyhN n)) s (fun t => t = (s.setXy k (mkWord n (lo (s.xy k)))).ran t ∧ t.pc = s.pc + 3) ∧
    Runs (k.pick (.ldIxlN n) (.ldIylN n)) s (fun t => t = (s.setXy k (mkWord (hi (s.xy k)) n)).ran t ∧ t.pc = s.pc + 3)

/-- O34 (R138, R139, R140, R144, R145, R146, R147). LD A,(BC), LD A,(DE) and LD A,(nn) load A and leave MW one past the
address; LD I,A and LD R,A copy A; LD A,I and LD A,R copy the register (R after this instruction's two refreshes)
and set S, Z, Y, X from it, PV from IFF2, H and N to 0 and keep C; everything else stays. -/
def Obligations.LoadAccumulator : Prop :=
  ∀ (s : State) (nn : Word),
    Runs .ldAMemBc s (fun t => t = { s with a := s.peek s.bc, mw := s.bc + 1 }.ran t ∧ t.pc = s.pc + 1) ∧
    Runs .ldAMemDe s (fun t => t = { s with a := s.peek s.de, mw := s.de + 1 }.ran t ∧ t.pc = s.pc + 1) ∧
    Runs (.ldAMemNn nn) s (fun t => t = { s with a := s.peek nn, mw := nn + 1 }.ran t ∧ t.pc = s.pc + 3) ∧
    Runs .ldIA s (fun t => t = { s with i := s.a }.ran t ∧ t.pc = s.pc + 2) ∧
    Runs .ldRefreshA s (fun t => t = s.ran t ∧ t.r = s.a ∧ t.pc = s.pc + 2) ∧
    Runs .ldAI s (fun t => t = { s with a := s.i, f := t.f }.ran t ∧ t.pc = s.pc + 2 ∧
      HasFlags t.f (s.i.getLsbD 7) (s.i = 0) (s.i.getLsbD 5) False (s.i.getLsbD 3) s.iff2 False (flagC s.f)) ∧
    Runs .ldARefresh s (fun t =>
      let v := bumpR (bumpR s.r)
      t = { s with a := v, f := t.f }.ran t ∧ t.r = v ∧ t.pc = s.pc + 2 ∧
      HasFlags t.f (v.getLsbD 7) (v = 0) (v.getLsbD 5) False (v.getLsbD 3) s.iff2 False (flagC s.f))

/-- O35 (R134, R135, R136, R137, R141, R142, R143). LD (HL),r, LD (HL),n, LD (XY+d),r, LD (XY+d),n, LD (BC),A, LD (DE),A
and LD (nn),A store their byte at their address, which every other byte of memory survives; the indexed forms leave
the address in MW, the stores of A leave A ++ (low byte of the address + 1); registers and flags stay. -/
def Obligations.StoreByte : Prop :=
  ∀ (s : State) (rr : Reg8) (n d : Byte) (nn : Word) (k : Idx), s.mem.wf = true →
    Runs (.ldMemHlR rr) s (fun t => t = { s with mem := t.mem }.ran t ∧ t.pc = s.pc + 1 ∧
      StoresByte s t s.hl (s.r8 rr)) ∧
    Runs (.ldMemHlN n) s (fun t => t = { s with mem := t.mem }.ran t ∧ t.pc = s.pc + 2 ∧ StoresByte s t s.hl n) ∧
    Runs (k.pick (.ldMemIxR d rr) (.ldMemIyR d rr)) s (fun t =>
      t = { s with mem := t.mem, mw := s.xy k + sext16 d }.ran t ∧ t.pc = s.pc + 3 ∧
      StoresByte s t (s.xy k + sext16 d) (s.r8 rr)) ∧
    Runs (k.pick (.ldMemIxN d n) (.ldMemIyN d n)) s (fun t =>
      t = { s with mem := t.mem, mw := s.xy k + sext16 d }.ran t ∧ t.pc = s.pc + 4 ∧
      StoresByte s t (s.xy k + sext16 d) n) ∧
    Runs .ldMemBcA s (fun t => t = { s with mem := t.mem, mw := mkWord s.a (s.c + 1) }.ran t ∧ t.pc = s.pc + 1 ∧
      StoresByte s t s.bc s.a) ∧
    Runs .ldMemDeA s (fun t => t = { s with mem := t.mem, mw := mkWord s.a (s.e + 1) }.ran t ∧ t.pc = s.pc + 1 ∧
      StoresByte s t s.de s.a) ∧
    Runs (.ldMemNnA nn) s (fun t => t = { s with mem := t.mem, mw := mkWord s.a (lo nn + 1) }.ran t ∧ t.pc = s.pc + 3 ∧
      StoresByte s t nn s.a)

/-- O36 (R160, R161, R162, R163, R164, R168, R169, R62). LD dd,nn, LD XY,nn, LD HL,(nn), LD dd,(nn), LD XY,(nn), LD
SP,HL and LD SP,XY complete: the destination takes the word, low byte at the lower address (which wraps), the memory
forms leave nn + 1 in MW, and everything else stays. -/
def Obligations.LoadPair : Prop :=
  ∀ (s : State) (dd : Pair) (nn : Word) (k : Idx),
    Runs (.ldDdNn dd nn) s (fun t => t = (s.setPair dd nn).ran t ∧ t.pc = s.pc + 3) ∧
    Runs (k.pick (.ldIxNn nn) (.ldIyNn nn)) s (fun t => t = (s.setXy k nn).ran t ∧ t.pc = s.pc + 4) ∧
    Runs (.ldHlMemNn nn) s (fun t =>
      t = { s with l := s.peek nn, h := s.peek (nn + 1), mw := nn + 1 }.ran t ∧ t.pc = s.pc + 3) ∧
    Runs (.ldDdMemNn dd nn) s (fun t =>
      t = ({ s with mw := nn + 1 }.setPair dd (mkWord (s.peek (nn + 1)) (s.peek nn))).ran t ∧ t.pc = s.pc + 4) ∧
    Runs (k.pick (.ldIxMemNn nn) (.ldIyMemNn nn)) s (fun t =>
      t = ({ s with mw := nn + 1 }.setXy k (mkWord (s.peek (nn + 1)) (s.peek nn))).ran t ∧ t.pc = s.pc + 4) ∧
    Runs .ldSpHl s (fun t => t = { s with sp := s.hl }.ran t ∧ t.pc = s.pc + 1) ∧
    Runs (k.pick .ldSpIx .ldSpIy) s (fun t => t = { s with sp := s.xy k }.ran t ∧ t.pc = s.pc + 2)

/-- O37 (R165, R166, R167, R62, R65). LD (nn),HL, LD (nn),dd and LD (nn),XY store their word, bytes in ROM lost, keep
every other byte of memory, and leave nn + 1 in MW; registers and flags stay. -/
def Obligations.StorePair : Prop :=
  ∀ (s : State) (dd : Pair) (nn : Word) (k : Idx), s.mem.wf = true →
    Runs (.ldMemNnHl nn) s (fun t => t = { s with mem := t.mem, mw := nn + 1 }.ran t ∧ t.pc = s.pc + 3 ∧
      StoresWord s t nn s.hl) ∧
    Runs (.ldMemNnDd dd nn) s (fun t => t = { s with mem := t.mem, mw := nn + 1 }.ran t ∧ t.pc = s.pc + 4 ∧
      StoresWord s t nn (s.pair dd)) ∧
    Runs (k.pick (.ldMemNnIx nn) (.ldMemNnIy nn)) s (fun t =>
      t = { s with mem := t.mem, mw := nn + 1 }.ran t ∧ t.pc = s.pc + 4 ∧ StoresWord s t nn (s.xy k))

/-- O38 (R170, R171, R172, R173, R24). PUSH stores the pair at SP - 2 and SP - 1, bytes in ROM lost, and lowers SP by 2;
POP loads the pair from SP and SP + 1, addresses wrapping, and raises SP by 2, POP AF loading all of F; everything
else stays. -/
def Obligations.PushPop : Prop :=
  ∀ (s : State) (qq : PairQ) (k : Idx),
    (s.mem.wf = true →
      Runs (.pushQq qq) s (fun t => t = { s with mem := t.mem, sp := s.sp - 2 }.ran t ∧ t.pc = s.pc + 1 ∧
        StoresWord s t (s.sp - 2) (s.pairQ qq)) ∧
      Runs (k.pick .pushIx .pushIy) s (fun t => t = { s with mem := t.mem, sp := s.sp - 2 }.ran t ∧ t.pc = s.pc + 2 ∧
        StoresWord s t (s.sp - 2) (s.xy k))) ∧
    Runs (.popQq qq) s (fun t =>
      t = ({ s with sp := s.sp + 2 }.setPairQ qq (mkWord (s.peek (s.sp + 1)) (s.peek s.sp))).ran t ∧ t.pc = s.pc + 1) ∧
    Runs (k.pick .popIx .popIy) s (fun t =>
      t = ({ s with sp := s.sp + 2 }.setXy k (mkWord (s.peek (s.sp + 1)) (s.peek s.sp))).ran t ∧ t.pc = s.pc + 2)

/-- O39 (R190, R191, R192, R193, R194). EX DE,HL swaps DE and HL; EX AF,AF' and EXX swap with the shadows; EX (SP),HL
and EX (SP),XY swap the register with the word on top of the stack, bytes in ROM kept, leave SP and put the new
register value in MW; everything else stays. -/
def Obligations.Exchanges : Prop :=
  ∀ (s : State) (k : Idx),
    Runs .exDeHl s (fun t => t = { s with d := s.h, e := s.l, h := s.d, l := s.e }.ran t ∧ t.pc = s.pc + 1) ∧
    Runs .exAfAf s (fun t =>
      t = { s with a := hi s.afAlt, f := lo s.afAlt, afAlt := mkWord s.a s.f }.ran t ∧ t.pc = s.pc + 1) ∧
    Runs .exx s (fun t =>
      t = { s with
        b := hi s.bcAlt, c := lo s.bcAlt, d := hi s.deAlt, e := lo s.deAlt, h := hi s.hlAlt, l := lo s.hlAlt
        bcAlt := s.bc, deAlt := s.de, hlAlt := s.hl }.ran t ∧ t.pc = s.pc + 1) ∧
    (s.mem.wf = true →
      Runs .exSpHl s (fun t =>
        t = { s with
          h := s.peek (s.sp + 1), l := s.peek s.sp, mw := mkWord (s.peek (s.sp + 1)) (s.peek s.sp), mem := t.mem }.ran t ∧
        t.pc = s.pc + 1 ∧ StoresWord s t s.sp s.hl) ∧
      Runs (k.pick .exSpIx .exSpIy) s (fun t =>
        t = ({ s with mw := mkWord (s.peek (s.sp + 1)) (s.peek s.sp), mem := t.mem }.setXy k
          (mkWord (s.peek (s.sp + 1)) (s.peek s.sp))).ran t ∧
        t.pc = s.pc + 2 ∧ StoresWord s t s.sp (s.xy k)))

/-- O40 (R195, R196, R197, R198, R199). Each copies the byte at HL to DE, steps HL and DE by 1 or -1 and counts BC down;
S, Z, C stay, H and N are 0, PV tells whether the new BC is not 0, Y and X are bits 1 and 3 of the byte plus A. LDI
and LDD move PC past themselves and leave MW; while BC is not 0 after the count LDIR and LDDR put PC back and MW to
their address + 1, else they end as LDI and LDD; everything else stays. -/
def Obligations.BlockTransfer : Prop :=
  ∀ (s : State) (up : Bool), s.mem.wf = true →
    let d : Word := if up then 1 else -1
    let v := s.peek s.hl
    let moved (t : State) : State :=
      { (((s.setHl (s.hl + d)).setDe (s.de + d)).setBc (s.bc - 1)) with f := t.f, mem := t.mem }
    let flags (t : State) : Prop :=
      HasFlags t.f (flagS s.f) (flagZ s.f) ((v + s.a).getLsbD 1) False ((v + s.a).getLsbD 3) (s.bc ≠ 1) False (flagC s.f)
    Runs (if up then .ldi else .ldd) s (fun t => t = (moved t).ran t ∧ t.pc = s.pc + 2 ∧
      StoresByte s t s.de v ∧ flags t) ∧
    Runs (if up then .ldir else .lddr) s (fun t =>
      t = { moved t with mw := if s.bc = 1 then s.mw else s.pc + 1 }.ran t ∧
      t.pc = (if s.bc = 1 then s.pc + 2 else s.pc) ∧ StoresByte s t s.de v ∧ flags t)

/-- O41 (R195, R200, R201, R202, R203). Each compares A with the byte at HL, steps HL and MW by 1 or -1 and counts BC
down; A, C and memory stay; S, Z, H come from the difference, N is 1, PV tells whether the new BC is not 0, Y and X
are bits 1 and 3 of the difference less H. CPIR and CPDR put PC back and MW to their address + 1 while BC is not 0
and the bytes differ; everything else stays. -/
def Obligations.BlockSearch : Prop :=
  ∀ (s : State) (up : Bool),
    let d : Word := if up then 1 else -1
    let v := s.peek s.hl
    let res := s.a - v
    let h := (s.a ^^^ v ^^^ res).getLsbD 4
    let n := if h then res - 1 else res
    let moved (t : State) : State := { ((s.setHl (s.hl + d)).setBc (s.bc - 1)) with f := t.f, mw := s.mw + d }
    let flags (t : State) : Prop :=
      HasFlags t.f (res.getLsbD 7) (s.a = v) (n.getLsbD 1) h (n.getLsbD 3) (s.bc ≠ 1) True (flagC s.f)
    Runs (if up then .cpi else .cpd) s (fun t => t = (moved t).ran t ∧ t.pc = s.pc + 2 ∧ flags t) ∧
    Runs (if up then .cpir else .cpdr) s (fun t =>
      (if s.bc = 1 ∨ s.a = v then t = (moved t).ran t ∧ t.pc = s.pc + 2
        else t = { moved t with mw := s.pc + 1 }.ran t ∧ t.pc = s.pc) ∧ flags t)

/-- O42 (R220, R221, R222, R223, R224, R225, R226, R227, R228). ADD, ADC, SUB, SBC, AND, XOR, OR and CP with r, n, (HL),
(XY+d), XYH and XYL give A and F the operation's result on A, the operand and the carry; only (XY+d) writes MW, with
the address; every other register and all of memory stay, PC moves past the instruction. -/
def Obligations.AluForms : Prop :=
  ∀ (s : State) (op : AluOp) (rr : Reg8) (n d : Byte) (k : Idx),
    let out (v : Byte) := op.apply s.a v (flagC s.f)
    Runs (op.regForm rr) s (fun t => t = { s with a := (out (s.r8 rr)).1, f := (out (s.r8 rr)).2 }.ran t ∧
      t.pc = s.pc + 1) ∧
    Runs (op.immForm n) s (fun t => t = { s with a := (out n).1, f := (out n).2 }.ran t ∧ t.pc = s.pc + 2) ∧
    Runs op.memForm s (fun t => t = { s with a := (out (s.peek s.hl)).1, f := (out (s.peek s.hl)).2 }.ran t ∧
      t.pc = s.pc + 1) ∧
    Runs (op.idxForm k d) s (fun t =>
      let x := s.xy k + sext16 d
      t = { s with a := (out (s.peek x)).1, f := (out (s.peek x)).2, mw := x }.ran t ∧ t.pc = s.pc + 3) ∧
    Runs (op.highForm k) s (fun t => t = { s with a := (out (hi (s.xy k))).1, f := (out (hi (s.xy k))).2 }.ran t ∧
      t.pc = s.pc + 2) ∧
    Runs (op.lowForm k) s (fun t => t = { s with a := (out (lo (s.xy k))).1, f := (out (lo (s.xy k))).2 }.ran t ∧
      t.pc = s.pc + 2)

/-- O43 (R30, R220, R221, R222, R223, R224, R225, R226, R227, R228). The result of each operation modulo 256, and S, Z,
Y, H, X, PV, N, C by the formulas of its rule: Y and X from the result, but from the operand for CP, which keeps A;
H and PV by the exclusive-or formulas, PV by parity for the logical ones; C by the integer sum or difference. -/
def Obligations.AluTables : Prop :=
  ∀ (a x : Byte) (c : Bool),
    let sum (cin : Nat) (p : Byte × Byte) : Prop :=
      let res := BitVec.ofNat 8 (a.toNat + x.toNat + cin)
      p.1 = res ∧ HasFlags p.2 (res.getLsbD 7) (res = 0) (res.getLsbD 5) ((a ^^^ x ^^^ res).getLsbD 4) (res.getLsbD 3)
        (a.getLsbD 7 = x.getLsbD 7 ∧ res.getLsbD 7 ≠ a.getLsbD 7) False (255 < a.toNat + x.toNat + cin)
    let difference (cin : Nat) (yx : Byte → Byte) (keep : Bool) (p : Byte × Byte) : Prop :=
      let res := a - x - BitVec.ofNat 8 cin
      p.1 = (if keep then a else res) ∧
      HasFlags p.2 (res.getLsbD 7) (res = 0) ((yx res).getLsbD 5) ((a ^^^ x ^^^ res).getLsbD 4) ((yx res).getLsbD 3)
        (a.getLsbD 7 ≠ x.getLsbD 7 ∧ res.getLsbD 7 ≠ a.getLsbD 7) True (a.toNat < x.toNat + cin)
    let logic (res : Byte) (h : Bool) (p : Byte × Byte) : Prop :=
      p.1 = res ∧
      HasFlags p.2 (res.getLsbD 7) (res = 0) (res.getLsbD 5) h (res.getLsbD 3) (parity res) False False
    sum 0 (AluOp.add.apply a x c) ∧ sum c.toNat (AluOp.adc.apply a x c) ∧
    difference 0 id false (AluOp.sub.apply a x c) ∧ difference c.toNat id false (AluOp.sbc.apply a x c) ∧
    difference 0 (fun _ => x) true (AluOp.cp.apply a x c) ∧
    logic (a &&& x) true (AluOp.and.apply a x c) ∧ logic (a ^^^ x) false (AluOp.xor.apply a x c) ∧
    logic (a ||| x) false (AluOp.or.apply a x c)

/-- O44 (R30, R34, R35, R220, R9). After an addition with carry H is 1 exactly when the low digits and the carry sum
above 15, and PV exactly when the signed sum leaves -128 to 127; after a subtraction with borrow H is 1 exactly when
the low digit borrows, and PV exactly when the signed difference leaves that range; parity is an even number of one
bits. -/
def Obligations.FlagMeaning : Prop :=
  (∀ (a x : Byte) (c : Bool),
    (flagH (addWithCarry a x c).2 = true ↔ 15 < a.toNat % 16 + x.toNat % 16 + c.toNat) ∧
    (flagPV (addWithCarry a x c).2 = true ↔ a.toInt + x.toInt + c.toNat < -128 ∨ 127 < a.toInt + x.toInt + c.toNat) ∧
    (flagH (subWithBorrow a x c).2 = true ↔ a.toNat % 16 < x.toNat % 16 + c.toNat) ∧
    (flagPV (subWithBorrow a x c).2 = true ↔ a.toInt - x.toInt - c.toNat < -128 ∨ 127 < a.toInt - x.toInt - c.toNat)) ∧
  (∀ v : Byte, parity v = true ↔ ((List.range 8).countP fun n => v.getLsbD n) % 2 = 0)

/-- O45 (R229, R230, R231, R232, R233, R234). INC adds 1 and DEC subtracts 1 modulo 256 to r, XYH, XYL, (HL) and (XY+d);
the flags are those of the rule, C stays; the memory forms store the result unless it is ROM and keep every other
byte, the indexed ones leave the address in MW; everything else stays. -/
def Obligations.IncDec8 : Prop :=
  ∀ (s : State) (rr : Reg8) (d : Byte) (k : Idx),
    let x := s.xy k + sext16 d
    Runs (.incR rr) s (fun t => t = { s.setR8 rr (s.r8 rr + 1) with f := t.f }.ran t ∧ t.pc = s.pc + 1 ∧
      IncFlags s.f (s.r8 rr) t.f) ∧
    Runs (.decR rr) s (fun t => t = { s.setR8 rr (s.r8 rr - 1) with f := t.f }.ran t ∧ t.pc = s.pc + 1 ∧
      DecFlags s.f (s.r8 rr) t.f) ∧
    Runs (k.pick .incIxh .incIyh) s (fun t =>
      t = { s.setXy k (mkWord (hi (s.xy k) + 1) (lo (s.xy k))) with f := t.f }.ran t ∧ t.pc = s.pc + 2 ∧
      IncFlags s.f (hi (s.xy k)) t.f) ∧
    Runs (k.pick .decIxh .decIyh) s (fun t =>
      t = { s.setXy k (mkWord (hi (s.xy k) - 1) (lo (s.xy k))) with f := t.f }.ran t ∧ t.pc = s.pc + 2 ∧
      DecFlags s.f (hi (s.xy k)) t.f) ∧
    Runs (k.pick .incIxl .incIyl) s (fun t =>
      t = { s.setXy k (mkWord (hi (s.xy k)) (lo (s.xy k) + 1)) with f := t.f }.ran t ∧ t.pc = s.pc + 2 ∧
      IncFlags s.f (lo (s.xy k)) t.f) ∧
    Runs (k.pick .decIxl .decIyl) s (fun t =>
      t = { s.setXy k (mkWord (hi (s.xy k)) (lo (s.xy k) - 1)) with f := t.f }.ran t ∧ t.pc = s.pc + 2 ∧
      DecFlags s.f (lo (s.xy k)) t.f) ∧
    (s.mem.wf = true →
      Runs .incMemHl s (fun t => t = { s with f := t.f, mem := t.mem }.ran t ∧ t.pc = s.pc + 1 ∧
        StoresByte s t s.hl (s.peek s.hl + 1) ∧ IncFlags s.f (s.peek s.hl) t.f) ∧
      Runs .decMemHl s (fun t => t = { s with f := t.f, mem := t.mem }.ran t ∧ t.pc = s.pc + 1 ∧
        StoresByte s t s.hl (s.peek s.hl - 1) ∧ DecFlags s.f (s.peek s.hl) t.f) ∧
      Runs (k.pick (.incMemIx d) (.incMemIy d)) s (fun t => t = { s with f := t.f, mem := t.mem, mw := x }.ran t ∧
        t.pc = s.pc + 3 ∧ StoresByte s t x (s.peek x + 1) ∧ IncFlags s.f (s.peek x) t.f) ∧
      Runs (k.pick (.decMemIx d) (.decMemIy d)) s (fun t => t = { s with f := t.f, mem := t.mem, mw := x }.ran t ∧
        t.pc = s.pc + 3 ∧ StoresByte s t x (s.peek x - 1) ∧ DecFlags s.f (s.peek x) t.f))

/-- O46 (R235, R236, R237, R238, R239). DAA adds or subtracts the correction of its rule; CPL complements A; NEG
subtracts A from 0; CCF inverts and SCF sets C, with Y and X from A; each sets the eight flags its rule gives and
changes no other register and no memory. -/
def Obligations.AccumulatorOps : Prop :=
  ∀ (s : State) (copy : BitVec 3),
    Runs .daa s (fun t =>
      let low := s.a.toNat % 16
      let carry : Prop := flagC s.f = true ∨ 0x99 < s.a.toNat
      let diff : Byte := (if flagH s.f = true ∨ 9 < low then 0x06 else 0) + (if flagC s.f = true ∨ 0x99 < s.a.toNat then 0x60 else 0)
      let res := if flagN s.f then s.a - diff else s.a + diff
      t = { s with a := res, f := t.f }.ran t ∧ t.pc = s.pc + 1 ∧
      HasFlags t.f (res.getLsbD 7) (res = 0) (res.getLsbD 5)
        (if flagN s.f then flagH s.f = true ∧ low < 6 else 9 < low) (res.getLsbD 3) (parity res) (flagN s.f) carry) ∧
    Runs .cpl s (fun t => t = { s with a := ~~~s.a, f := t.f }.ran t ∧ t.pc = s.pc + 1 ∧
      HasFlags t.f (flagS s.f) (flagZ s.f) (s.a.getLsbD 5 = false) True (s.a.getLsbD 3 = false) (flagPV s.f) True
        (flagC s.f)) ∧
    Runs (.neg copy) s (fun t => t = { s with a := 0 - s.a, f := t.f }.ran t ∧ t.pc = s.pc + 2 ∧
      HasFlags t.f ((0 - s.a).getLsbD 7) (s.a = 0) ((0 - s.a).getLsbD 5) (s.a.toNat % 16 ≠ 0) ((0 - s.a).getLsbD 3)
        (s.a = 0x80) True (s.a ≠ 0)) ∧
    Runs .ccf s (fun t => t = { s with f := t.f }.ran t ∧ t.pc = s.pc + 1 ∧
      HasFlags t.f (flagS s.f) (flagZ s.f) (s.a.getLsbD 5) (flagC s.f) (s.a.getLsbD 3) (flagPV s.f) False
        (flagC s.f = false)) ∧
    Runs .scf s (fun t => t = { s with f := t.f }.ran t ∧ t.pc = s.pc + 1 ∧
      HasFlags t.f (flagS s.f) (flagZ s.f) (s.a.getLsbD 5) False (s.a.getLsbD 3) (flagPV s.f) False True)

/-- O47 (R235, R221, R223). When A and B hold two-digit decimal numbers x and y, ADD A,B then DAA leaves the decimal
digits of (x + y) mod 100 in A and C exactly when x + y exceeds 99; SUB B then DAA leaves those of (x - y) mod 100
and C exactly when x is below y. -/
def Obligations.DaaCorrects : Prop :=
  ∀ (s : State) (x y : Nat), x < 100 → y < 100 →
    let bcd (n : Nat) : Byte := BitVec.ofNat 8 (n / 10 * 16 + n % 10)
    s.a = bcd x → s.b = bcd y →
    (∃ t u, exec (.addAR .b) s = .next t ∧ exec .daa t = .next u ∧ u.a = bcd ((x + y) % 100) ∧
      (flagC u.f = true ↔ 99 < x + y)) ∧
    (∃ t u, exec (.subR .b) s = .next t ∧ exec .daa t = .next u ∧ u.a = bcd ((x + 100 - y) % 100) ∧
      (flagC u.f = true ↔ x < y))

/-- O48 (R260, R261, R262, R263, R264, R265, R266, R267). ADD HL,ss and ADD XY,pp keep S, Z and PV; ADC HL,ss and SBC
HL,ss set all eight flags from the 16-bit result; all of these leave the old register plus 1 in MW. INC and DEC of a
pair or an index register change no flag. No memory and no other register changes. -/
def Obligations.Arithmetic16 : Prop :=
  ∀ (s : State) (ss : Pair) (pp : PairX) (k : Idx),
    let added (a b res : Word) (f : Byte) : Prop :=
      HasFlags f (flagS s.f) (flagZ s.f) (res.getLsbD 13) ((a ^^^ b ^^^ res).getLsbD 12) (res.getLsbD 11) (flagPV s.f) False
        (65535 < a.toNat + b.toNat)
    Runs (.addHlSs ss) s (fun t => t = { s.setHl (s.hl + s.pair ss) with f := t.f, mw := s.hl + 1 }.ran t ∧
      t.pc = s.pc + 1 ∧ added s.hl (s.pair ss) (s.hl + s.pair ss) t.f) ∧
    Runs (k.pick (.addIxPp pp) (.addIyPp pp)) s (fun t =>
      t = { s.setXy k (s.xy k + s.pairX k pp) with f := t.f, mw := s.xy k + 1 }.ran t ∧ t.pc = s.pc + 2 ∧
      added (s.xy k) (s.pairX k pp) (s.xy k + s.pairX k pp) t.f) ∧
    Runs (.adcHlSs ss) s (fun t =>
      let b := s.pair ss
      let res := s.hl + b + BitVec.ofNat 16 (flagC s.f).toNat
      t = { s.setHl res with f := t.f, mw := s.hl + 1 }.ran t ∧ t.pc = s.pc + 2 ∧
      HasFlags t.f (res.getLsbD 15) (res = 0) (res.getLsbD 13) ((s.hl ^^^ b ^^^ res).getLsbD 12) (res.getLsbD 11)
        (s.hl.getLsbD 15 = b.getLsbD 15 ∧ res.getLsbD 15 ≠ s.hl.getLsbD 15) False
        (65535 < s.hl.toNat + b.toNat + (flagC s.f).toNat)) ∧
    Runs (.sbcHlSs ss) s (fun t =>
      let b := s.pair ss
      let res := s.hl - b - BitVec.ofNat 16 (flagC s.f).toNat
      t = { s.setHl res with f := t.f, mw := s.hl + 1 }.ran t ∧ t.pc = s.pc + 2 ∧
      HasFlags t.f (res.getLsbD 15) (res = 0) (res.getLsbD 13) ((s.hl ^^^ b ^^^ res).getLsbD 12) (res.getLsbD 11)
        (s.hl.getLsbD 15 ≠ b.getLsbD 15 ∧ res.getLsbD 15 ≠ s.hl.getLsbD 15) True
        (s.hl.toNat < b.toNat + (flagC s.f).toNat)) ∧
    Runs (.incSs ss) s (fun t => t = (s.setPair ss (s.pair ss + 1)).ran t ∧ t.pc = s.pc + 1) ∧
    Runs (.decSs ss) s (fun t => t = (s.setPair ss (s.pair ss - 1)).ran t ∧ t.pc = s.pc + 1) ∧
    Runs (k.pick .incIx .incIy) s (fun t => t = (s.setXy k (s.xy k + 1)).ran t ∧ t.pc = s.pc + 2) ∧
    Runs (k.pick .decIx .decIy) s (fun t => t = (s.setXy k (s.xy k - 1)).ran t ∧ t.pc = s.pc + 2)

/-- O49 (R280, R281, R282, R283, R284, R285, R286, R287, R290, R291, R293, R294). RLCA, RRCA, RLA and RRA rotate A, keep
S, Z and PV and set the rest; RLC, RRC, RL, RR, SLA, SRA, SLL and SRL of r, (HL) and (XY+d) write the result back,
unless it is ROM, and set all eight flags; the copy forms write the result to r too; the indexed forms leave the
address in MW; RLD and RRD move decimal digits between A and (HL) and leave HL + 1 in MW. Everything else stays. -/
def Obligations.Rotates : Prop :=
  ∀ (s : State) (op : RotOp) (rr : Reg8) (d : Byte) (k : Idx),
    let c := flagC s.f
    let turned (j : Instr) (q : RotOp) : Prop := Runs j s (fun t =>
      t = { s with a := (q.run s.a c).1, f := t.f }.ran t ∧ t.pc = s.pc + 1 ∧
      HasFlags t.f (flagS s.f) (flagZ s.f) (t.a.getLsbD 5) False (t.a.getLsbD 3) (flagPV s.f) False (q.run s.a c).2)
    let x := s.xy k + sext16 d
    turned .rlca .rlc ∧ turned .rrca .rrc ∧ turned .rla .rl ∧ turned .rra .rr ∧
    Runs (op.regForm rr) s (fun t => t = { s.setR8 rr (op.run (s.r8 rr) c).1 with f := t.f }.ran t ∧ t.pc = s.pc + 2 ∧
      ShiftFlags (op.run (s.r8 rr) c).1 (op.run (s.r8 rr) c).2 t.f) ∧
    (s.mem.wf = true →
      Runs op.memForm s (fun t => t = { s with f := t.f, mem := t.mem }.ran t ∧ t.pc = s.pc + 2 ∧
        StoresByte s t s.hl (op.run (s.peek s.hl) c).1 ∧
        ShiftFlags (op.run (s.peek s.hl) c).1 (op.run (s.peek s.hl) c).2 t.f) ∧
      Runs (op.idxForm k d) s (fun t => t = { s with f := t.f, mem := t.mem, mw := x }.ran t ∧ t.pc = s.pc + 4 ∧
        StoresByte s t x (op.run (s.peek x) c).1 ∧ ShiftFlags (op.run (s.peek x) c).1 (op.run (s.peek x) c).2 t.f) ∧
      Runs (op.copyForm k rr d) s (fun t =>
        t = { s.setR8 rr (op.run (s.peek x) c).1 with f := t.f, mem := t.mem, mw := x }.ran t ∧ t.pc = s.pc + 4 ∧
        StoresByte s t x (op.run (s.peek x) c).1 ∧ ShiftFlags (op.run (s.peek x) c).1 (op.run (s.peek x) c).2 t.f) ∧
      Runs .rld s (fun t =>
        let m := s.peek s.hl
        t = { s with a := BitVec.ofNat 8 (s.a.toNat / 16 * 16 + m.toNat / 16), f := t.f, mem := t.mem, mw := s.hl + 1 }.ran t ∧
        t.pc = s.pc + 2 ∧ StoresByte s t s.hl (BitVec.ofNat 8 (m.toNat % 16 * 16 + s.a.toNat % 16)) ∧
        HasFlags t.f (t.a.getLsbD 7) (t.a = 0) (t.a.getLsbD 5) False (t.a.getLsbD 3) (parity t.a) False c) ∧
      Runs .rrd s (fun t =>
        let m := s.peek s.hl
        t = { s with a := BitVec.ofNat 8 (s.a.toNat / 16 * 16 + m.toNat % 16), f := t.f, mem := t.mem, mw := s.hl + 1 }.ran t ∧
        t.pc = s.pc + 2 ∧ StoresByte s t s.hl (BitVec.ofNat 8 (s.a.toNat % 16 * 16 + m.toNat / 16)) ∧
        HasFlags t.f (t.a.getLsbD 7) (t.a = 0) (t.a.getLsbD 5) False (t.a.getLsbD 3) (parity t.a) False c))

/-- O50 (R97, R285, R286, R287, R288, R289, R290, R291, R292). RLC and RL move every bit one place up, bit 0 taking bit
7 or the old carry; RRC and RR one place down, bit 7 taking bit 0 or the old carry; SLA brings in 0, SLL 1, SRA
keeps bit 7, SRL brings in 0; the bit that leaves is C. -/
def Obligations.RotateBits : Prop :=
  ∀ (v : Byte) (c : Bool) (n : Nat), n < 8 →
    let up (low : Bool) : Bool := if n = 0 then low else v.getLsbD (n - 1)
    let down (high : Bool) : Bool := if n = 7 then high else v.getLsbD (n + 1)
    (RotOp.rlc.run v c).1.getLsbD n = up (v.getLsbD 7) ∧ (RotOp.rlc.run v c).2 = v.getLsbD 7 ∧
    (RotOp.rrc.run v c).1.getLsbD n = down (v.getLsbD 0) ∧ (RotOp.rrc.run v c).2 = v.getLsbD 0 ∧
    (RotOp.rl.run v c).1.getLsbD n = up c ∧ (RotOp.rl.run v c).2 = v.getLsbD 7 ∧
    (RotOp.rr.run v c).1.getLsbD n = down c ∧ (RotOp.rr.run v c).2 = v.getLsbD 0 ∧
    (RotOp.sla.run v c).1.getLsbD n = up false ∧ (RotOp.sla.run v c).2 = v.getLsbD 7 ∧
    (RotOp.sra.run v c).1.getLsbD n = down (v.getLsbD 7) ∧ (RotOp.sra.run v c).2 = v.getLsbD 0 ∧
    (RotOp.sll.run v c).1.getLsbD n = up true ∧ (RotOp.sll.run v c).2 = v.getLsbD 7 ∧
    (RotOp.srl.run v c).1.getLsbD n = down false ∧ (RotOp.srl.run v c).2 = v.getLsbD 0

/-- O51 (R310, R311, R312). BIT b of r, (HL) and (XY+d) sets Z and PV when the bit is 0, S when b is 7 and the bit 1, H
to 1, N to 0, keeps C, and takes Y and X from the register, from the high byte of MW, or from the high byte of the
address; only the indexed form writes MW; everything else stays. -/
def Obligations.BitTests : Prop :=
  ∀ (s : State) (b z : BitVec 3) (rr : Reg8) (d : Byte) (k : Idx),
    let x := s.xy k + sext16 d
    Runs (.bitR b rr) s (fun t => t = { s with f := t.f }.ran t ∧ t.pc = s.pc + 2 ∧
      BitFlags s.f b (s.r8 rr) ((s.r8 rr).getLsbD 5) ((s.r8 rr).getLsbD 3) t.f) ∧
    Runs (.bitMemHl b) s (fun t => t = { s with f := t.f }.ran t ∧ t.pc = s.pc + 2 ∧
      BitFlags s.f b (s.peek s.hl) (s.mw.getLsbD 13) (s.mw.getLsbD 11) t.f) ∧
    Runs (k.pick (.bitMemIx b z d) (.bitMemIy b z d)) s (fun t => t = { s with f := t.f, mw := x }.ran t ∧
      t.pc = s.pc + 4 ∧ BitFlags s.f b (s.peek x) (x.getLsbD 13) (x.getLsbD 11) t.f)

/-- O52 (R313, R314, R315, R316, R317, R318). SET b and RES b of r, (HL) and (XY+d) write the operand with that bit 1 or
0, unless it is ROM, and keep every other byte; the copy forms write the result to r too; the indexed forms leave
the address in MW; flags and everything else stay. -/
def Obligations.SetRes : Prop :=
  ∀ (s : State) (b : BitVec 3) (rr : Reg8) (d : Byte) (k : Idx),
    let x := s.xy k + sext16 d
    let on (v : Byte) : Byte := v ||| ((1 : Byte) <<< b.toNat)
    let off (v : Byte) : Byte := v &&& ~~~((1 : Byte) <<< b.toNat)
    Runs (.setR b rr) s (fun t => t = (s.setR8 rr (on (s.r8 rr))).ran t ∧ t.pc = s.pc + 2) ∧
    Runs (.resR b rr) s (fun t => t = (s.setR8 rr (off (s.r8 rr))).ran t ∧ t.pc = s.pc + 2) ∧
    (s.mem.wf = true →
      Runs (.setMemHl b) s (fun t => t = { s with mem := t.mem }.ran t ∧ t.pc = s.pc + 2 ∧
        StoresByte s t s.hl (on (s.peek s.hl))) ∧
      Runs (.resMemHl b) s (fun t => t = { s with mem := t.mem }.ran t ∧ t.pc = s.pc + 2 ∧
        StoresByte s t s.hl (off (s.peek s.hl))) ∧
      Runs (k.pick (.setMemIx b d) (.setMemIy b d)) s (fun t => t = { s with mem := t.mem, mw := x }.ran t ∧
        t.pc = s.pc + 4 ∧ StoresByte s t x (on (s.peek x))) ∧
      Runs (k.pick (.resMemIx b d) (.resMemIy b d)) s (fun t => t = { s with mem := t.mem, mw := x }.ran t ∧
        t.pc = s.pc + 4 ∧ StoresByte s t x (off (s.peek x))) ∧
      Runs (k.pick (.ldRSetMemIx rr b d) (.ldRSetMemIy rr b d)) s (fun t =>
        t = { s.setR8 rr (on (s.peek x)) with mem := t.mem, mw := x }.ran t ∧ t.pc = s.pc + 4 ∧
        StoresByte s t x (on (s.peek x))) ∧
      Runs (k.pick (.ldRResMemIx rr b d) (.ldRResMemIy rr b d)) s (fun t =>
        t = { s.setR8 rr (off (s.peek x)) with mem := t.mem, mw := x }.ran t ∧ t.pc = s.pc + 4 ∧
        StoresByte s t x (off (s.peek x))))

/-- O53 (R37, R330, R331, R332, R333, R334, R335, R336). NZ, Z, NC, C, PO, PE, P and M hold exactly when the flag they
name is 0 or 1. JP nn and JP cc,nn leave nn in MW and JP cc jumps when cc holds; JP (HL) and JP (XY) jump and leave
MW; JR, JR cc and DJNZ jump to their own address + 2 + e and leave the target in MW, and not taken leave MW and fall
through; DJNZ first counts B down and jumps unless it reached 0. -/
def Obligations.Jumps : Prop :=
  ∀ (s : State) (cc : Cond) (nn : Word) (e : Byte) (k : Idx),
    let target := s.pc + 2 + sext16 e
    (s.cond .nz = true ↔ flagZ s.f = false) ∧ (s.cond .z = true ↔ flagZ s.f = true) ∧
    (s.cond .nc = true ↔ flagC s.f = false) ∧ (s.cond .c = true ↔ flagC s.f = true) ∧
    (s.cond .po = true ↔ flagPV s.f = false) ∧ (s.cond .pe = true ↔ flagPV s.f = true) ∧
    (s.cond .p = true ↔ flagS s.f = false) ∧ (s.cond .m = true ↔ flagS s.f = true) ∧
    Runs (.jpNn nn) s (fun t => t = { s with mw := nn }.ran t ∧ t.pc = nn) ∧
    Runs (.jpCcNn cc nn) s (fun t => t = { s with mw := nn }.ran t ∧ t.pc = if s.cond cc then nn else s.pc + 3) ∧
    Runs .jpHl s (fun t => t = s.ran t ∧ t.pc = s.hl) ∧
    Runs (k.pick .jpIx .jpIy) s (fun t => t = s.ran t ∧ t.pc = s.xy k) ∧
    Runs (.jr e) s (fun t => t = { s with mw := target }.ran t ∧ t.pc = target) ∧
    Runs (.jrCc cc e) s (fun t =>
      if s.cond cc then t = { s with mw := target }.ran t ∧ t.pc = target else t = s.ran t ∧ t.pc = s.pc + 2) ∧
    Runs (.djnz e) s (fun t =>
      if s.b = 1 then t = { s with b := 0 }.ran t ∧ t.pc = s.pc + 2
      else t = { s with b := s.b - 1, mw := target }.ran t ∧ t.pc = target)

/-- O54 (R337, R338, R339, R340, R341, R342, R343, R416). CALL nn, a taken CALL cc,nn and RST p store the address of the
next instruction at SP - 2 and SP - 1, bytes in ROM lost, lower SP by 2 and leave the target in PC and MW; a CALL cc
not taken writes MW only; RET, a taken RET cc, RETI and RETN load PC and MW from the stack and raise SP by 2; RETI
and RETN also copy IFF2 to IFF1; everything else stays. -/
def Obligations.Calls : Prop :=
  ∀ (s : State) (cc : Cond) (nn : Word) (p copy : BitVec 3),
    let top := mkWord (s.peek (s.sp + 1)) (s.peek s.sp)
    (s.mem.wf = true →
      Runs (.callNn nn) s (fun t => t = { s with mw := nn, sp := s.sp - 2, mem := t.mem }.ran t ∧ t.pc = nn ∧
        StoresWord s t (s.sp - 2) (s.pc + 3)) ∧
      Runs (.callCcNn cc nn) s (fun t =>
        if s.cond cc then t = { s with mw := nn, sp := s.sp - 2, mem := t.mem }.ran t ∧ t.pc = nn ∧
          StoresWord s t (s.sp - 2) (s.pc + 3)
        else t = { s with mw := nn }.ran t ∧ t.pc = s.pc + 3) ∧
      Runs (.rstP p) s (fun t =>
        let target := BitVec.ofNat 16 (8 * p.toNat)
        t = { s with mw := target, sp := s.sp - 2, mem := t.mem }.ran t ∧ t.pc = target ∧
        StoresWord s t (s.sp - 2) (s.pc + 1))) ∧
    Runs .ret s (fun t => t = { s with mw := top, sp := s.sp + 2 }.ran t ∧ t.pc = top) ∧
    Runs (.retCc cc) s (fun t =>
      if s.cond cc then t = { s with mw := top, sp := s.sp + 2 }.ran t ∧ t.pc = top else t = s.ran t ∧ t.pc = s.pc + 1) ∧
    Runs .reti s (fun t => t = { s with mw := top, sp := s.sp + 2, iff1 := s.iff2 }.ran t ∧ t.pc = top) ∧
    Runs (.retn copy) s (fun t => t = { s with mw := top, sp := s.sp + 2, iff1 := s.iff2 }.ran t ∧ t.pc = top)

/-- O55 (R337, R339, R24). From a state whose two stack bytes are not ROM, CALL nn then RET ends at the address after
the CALL with SP as it was, and no register, flag or byte of memory outside the two stack bytes changed but MW and
R. -/
def Obligations.CallThenReturn : Prop :=
  ∀ (s : State) (nn : Word), s.mem.wf = true → s.isRom (s.sp - 1) = false → s.isRom (s.sp - 2) = false →
    ∃ t u, exec (.callNn nn) s = .next t ∧ exec .ret t = .next u ∧
      u = { s with mw := s.pc + 3, mem := u.mem }.ran u ∧ u.pc = s.pc + 3 ∧
      ∀ y, y ≠ s.sp - 1 → y ≠ s.sp - 2 → u.peek y = s.peek y

/-- O56 (R360, R361, R362, R363, R364, R365, R69, R75, log 4, log 5). IN A,(n) reads port A ++ n into A and changes no
flag; IN r,(C) and IN (C) read port BC, set S, Z, Y, X and parity, clear H and N and keep C, the first writing r;
OUT (n),A writes A to port A ++ n; OUT (C),r and OUT (C),0 write to port BC. The byte read is the port device's free
answer (log 4). Each records its access with its tact (log 5), writes MW, and leaves everything else. -/
def Obligations.InOut : Prop :=
  ∀ (s : State) (rr : Reg8) (n : Byte),
    let t1 (p : Word) : Tact := s.fetchOpcode.fetchByte.portTact p
    let t2 (p : Word) : Tact := s.fetchPrefixed.portTact p
    let q := mkWord s.a n
    let flags (v f : Byte) : Prop :=
      HasFlags f (v.getLsbD 7) (v = 0) (v.getLsbD 5) False (v.getLsbD 3) (parity v) False (flagC s.f)
    Runs (.inAN n) s (fun t =>
      let v := Config.portRead q (t1 q) s.ports
      t = { s with a := v, mw := q + 1, ports := s.ports ++ [PortEvent.input q v (t1 q)] }.ran t ∧ t.pc = s.pc + 2) ∧
    Runs (.inRC rr) s (fun t =>
      let v := Config.portRead s.bc (t2 s.bc) s.ports
      t = { s.setR8 rr v with f := t.f, mw := s.bc + 1, ports := s.ports ++ [PortEvent.input s.bc v (t2 s.bc)] }.ran t ∧
      t.pc = s.pc + 2 ∧ flags v t.f) ∧
    Runs .inC s (fun t =>
      let v := Config.portRead s.bc (t2 s.bc) s.ports
      t = { s with f := t.f, mw := s.bc + 1, ports := s.ports ++ [PortEvent.input s.bc v (t2 s.bc)] }.ran t ∧
      t.pc = s.pc + 2 ∧ flags v t.f) ∧
    Runs (.outNA n) s (fun t =>
      t = { s with mw := mkWord s.a (n + 1), ports := s.ports ++ [PortEvent.output q s.a (t1 q)] }.ran t ∧ t.pc = s.pc + 2) ∧
    Runs (.outCR rr) s (fun t =>
      t = { s with mw := s.bc + 1, ports := s.ports ++ [PortEvent.output s.bc (s.r8 rr) (t2 s.bc)] }.ran t ∧ t.pc = s.pc + 2) ∧
    Runs .outC0 s (fun t =>
      t = { s with mw := s.bc + 1, ports := s.ports ++ [PortEvent.output s.bc 0 (t2 s.bc)] }.ran t ∧ t.pc = s.pc + 2)

/-- O57 (R366, R367, R368, R369, R370, R371, R372, R373, R374, R195, log 4, log 5). INI and IND read port BC, store the
byte at HL and then count B down; OUTI and OUTD count B down and write the byte at HL to port BC with the new B; HL
steps by 1 or -1, MW becomes BC stepped (old B for input, new B for output), the flags are those of R366; INIR,
INDR, OTIR and OTDR then put PC back unless B is 0 and leave MW; every other register and byte stays. The byte read
is the port device's free answer (log 4), the record of the access log 5. -/
def Obligations.BlockIo : Prop :=
  ∀ (s : State) (up : Bool), s.mem.wf = true →
    let d : Word := if up then 1 else -1
    let b := s.b - 1
    let p := mkWord b s.c
    let tin := (s.fetchPrefixed.tick 1).portTact s.bc
    let vin := Config.portRead s.bc tin s.ports
    let tout := ((s.fetchPrefixed.tick 1).readCycle s.hl).portTact p
    let vout := s.peek s.hl
    let back := if b = 0 then s.pc + 2 else s.pc
    let took (t : State) : Prop :=
      t = { s.setHl (s.hl + d) with
        b := b, f := t.f, mem := t.mem, mw := s.bc + d, ports := s.ports ++ [PortEvent.input s.bc vin tin] }.ran t ∧
      StoresByte s t s.hl vin ∧ BlockIoFlags b vin (vin.toNat + (if up then s.c + 1 else s.c - 1).toNat) t.f
    let gave (t : State) : Prop :=
      t = { s.setHl (s.hl + d) with b := b, f := t.f, mw := p + d, ports := s.ports ++ [PortEvent.output p vout tout] }.ran t ∧
      BlockIoFlags b vout (vout.toNat + (lo (s.hl + d)).toNat) t.f
    Runs (if up then .ini else .ind) s (fun t => took t ∧ t.pc = s.pc + 2) ∧
    Runs (if up then .inir else .indr) s (fun t => took t ∧ t.pc = back) ∧
    Runs (if up then .outi else .outd) s (fun t => gave t ∧ t.pc = s.pc + 2) ∧
    Runs (if up then .otir else .otdr) s (fun t => gave t ∧ t.pc = back)

/-- O58 (R380, R381, R382, R383, R384, R385, R386, R387, R388). NOP and the undefined ED opcodes change nothing but PC,
R and Tacts; HALT, also behind an ignored prefix, sets Halted and leaves PC after it or, with HALT_PC = SELF, at the
76 byte; DI clears and EI sets IFF1 and IFF2, EI also IntBlocked; IM n sets IM; a redundant prefix sets IntBlocked
and moves PC by one. -/
def Obligations.CpuControl : Prop :=
  ∀ (s : State) (op : Byte) (b5 b3 : Bool) (k : Idx) (j : Instr),
    let rest (n : Word) : Word := if s.cfg.haltPc = .self then s.pc + n - 1 else s.pc + n
    Runs .nop s (fun t => t = s.ran t ∧ t.pc = s.pc + 1) ∧
    Runs (.nopEd op) s (fun t => t = s.ran t ∧ t.pc = s.pc + 2) ∧
    Runs .halt s (fun t => t = { s with halted := true }.ran t ∧ t.pc = rest 1) ∧
    Runs (k.pick .haltIx .haltIy) s (fun t => t = { s with halted := true }.ran t ∧ t.pc = rest 2) ∧
    Runs .di s (fun t => t = { s with iff1 := false, iff2 := false }.ran t ∧ t.pc = s.pc + 1) ∧
    Runs .ei s (fun t => t = { s with iff1 := true, iff2 := true, intBlocked := true }.ran t ∧ t.pc = s.pc + 1) ∧
    Runs (.im0 b5 b3) s (fun t => t = { s with im := .im0 }.ran t ∧ t.pc = s.pc + 2) ∧
    Runs (.im1 b5) s (fun t => t = { s with im := .im1 }.ran t ∧ t.pc = s.pc + 2) ∧
    Runs (.im2 b5) s (fun t => t = { s with im := .im2 }.ran t ∧ t.pc = s.pc + 2) ∧
    (isRedundant j = true → Runs j s (fun t => t = { s with intBlocked := true }.ran t ∧ t.pc = s.pc + 1))

/-- O59 (R389, R101, log 12). DD or FD before a base opcode it does not affect completes exactly as the base instruction
does after one more opcode fetch, and leaves HL to it alone; this includes EX DE,HL and EXX. -/
def Obligations.IgnoredPrefix : Prop :=
  ∀ (s : State) (base : Instr), (Instr.ixIgnored base).wf = true →
    Runs (.ixIgnored base) s (fun t => exec base s.fetchOpcode = .next t) ∧
    Runs (.iyIgnored base) s (fun t => exec base s.fetchOpcode = .next t)

/-- O60 (R99, R100, R101, R103, R104, log 11). The six prefix rows complete: CB, ED, DD, FD, DD CB and FD CB at PC run
what the bytes at PC decode to, so that each prefix enters its own table. -/
def Obligations.PrefixRows : Prop :=
  ∀ s : State,
    (s.peek s.pc = 0xCB → Runs .cbPrefix s (fun t => exec s.instrAt s = .next t)) ∧
    (s.peek s.pc = 0xED → Runs .edPrefix s (fun t => exec s.instrAt s = .next t)) ∧
    (s.peek s.pc = 0xDD → Runs .ddPrefix s (fun t => exec s.instrAt s = .next t)) ∧
    (s.peek s.pc = 0xFD → Runs .fdPrefix s (fun t => exec s.instrAt s = .next t)) ∧
    (s.peek s.pc = 0xDD → s.peek (s.pc + 1) = 0xCB → Runs .ixCbPrefix s (fun t => exec s.instrAt s = .next t)) ∧
    (s.peek s.pc = 0xFD → s.peek (s.pc + 1) = 0xCB → Runs .iyCbPrefix s (fun t => exec s.instrAt s = .next t))
end

