-- ==== Sys2Proof/Laws/State.lean ====
section
/-! SUPPORT. What each update leaves and writes, field by field: one lemma per field and update. -/

namespace Sys2Proof.Machine

@[simp] theorem State.setA_a (s : State) (v : Byte) : (s.setA v).a = v := rfl
@[simp] theorem State.setA_f (s : State) (v : Byte) : (s.setA v).f = s.f := rfl
@[simp] theorem State.setA_b (s : State) (v : Byte) : (s.setA v).b = s.b := rfl
@[simp] theorem State.setA_c (s : State) (v : Byte) : (s.setA v).c = s.c := rfl
@[simp] theorem State.setA_d (s : State) (v : Byte) : (s.setA v).d = s.d := rfl
@[simp] theorem State.setA_e (s : State) (v : Byte) : (s.setA v).e = s.e := rfl
@[simp] theorem State.setA_h (s : State) (v : Byte) : (s.setA v).h = s.h := rfl
@[simp] theorem State.setA_l (s : State) (v : Byte) : (s.setA v).l = s.l := rfl
@[simp] theorem State.setA_afAlt (s : State) (v : Byte) : (s.setA v).afAlt = s.afAlt := rfl
@[simp] theorem State.setA_bcAlt (s : State) (v : Byte) : (s.setA v).bcAlt = s.bcAlt := rfl
@[simp] theorem State.setA_deAlt (s : State) (v : Byte) : (s.setA v).deAlt = s.deAlt := rfl
@[simp] theorem State.setA_hlAlt (s : State) (v : Byte) : (s.setA v).hlAlt = s.hlAlt := rfl
@[simp] theorem State.setA_ix (s : State) (v : Byte) : (s.setA v).ix = s.ix := rfl
@[simp] theorem State.setA_iy (s : State) (v : Byte) : (s.setA v).iy = s.iy := rfl
@[simp] theorem State.setA_sp (s : State) (v : Byte) : (s.setA v).sp = s.sp := rfl
@[simp] theorem State.setA_pc (s : State) (v : Byte) : (s.setA v).pc = s.pc := rfl
@[simp] theorem State.setA_i (s : State) (v : Byte) : (s.setA v).i = s.i := rfl
@[simp] theorem State.setA_r (s : State) (v : Byte) : (s.setA v).r = s.r := rfl
@[simp] theorem State.setA_mw (s : State) (v : Byte) : (s.setA v).mw = s.mw := rfl
@[simp] theorem State.setA_iff1 (s : State) (v : Byte) : (s.setA v).iff1 = s.iff1 := rfl
@[simp] theorem State.setA_iff2 (s : State) (v : Byte) : (s.setA v).iff2 = s.iff2 := rfl
@[simp] theorem State.setA_im (s : State) (v : Byte) : (s.setA v).im = s.im := rfl
@[simp] theorem State.setA_intBlocked (s : State) (v : Byte) : (s.setA v).intBlocked = s.intBlocked := rfl
@[simp] theorem State.setA_reqReset (s : State) (v : Byte) : (s.setA v).reqReset = s.reqReset := rfl
@[simp] theorem State.setA_reqInt (s : State) (v : Byte) : (s.setA v).reqInt = s.reqInt := rfl
@[simp] theorem State.setA_reqNmi (s : State) (v : Byte) : (s.setA v).reqNmi = s.reqNmi := rfl
@[simp] theorem State.setA_halted (s : State) (v : Byte) : (s.setA v).halted = s.halted := rfl
@[simp] theorem State.setA_prefixMode (s : State) (v : Byte) : (s.setA v).prefixMode = s.prefixMode := rfl
@[simp] theorem State.setA_indexMode (s : State) (v : Byte) : (s.setA v).indexMode = s.indexMode := rfl
@[simp] theorem State.setA_heldDisp (s : State) (v : Byte) : (s.setA v).heldDisp = s.heldDisp := rfl
@[simp] theorem State.setA_tacts (s : State) (v : Byte) : (s.setA v).tacts = s.tacts := rfl
@[simp] theorem State.setA_devRaised (s : State) (v : Byte) : (s.setA v).devRaised = s.devRaised := rfl
@[simp] theorem State.setA_devRevoked (s : State) (v : Byte) : (s.setA v).devRevoked = s.devRevoked := rfl
@[simp] theorem State.setA_devFrame (s : State) (v : Byte) : (s.setA v).devFrame = s.devFrame := rfl
@[simp] theorem State.setA_mem (s : State) (v : Byte) : (s.setA v).mem = s.mem := rfl
@[simp] theorem State.setA_ports (s : State) (v : Byte) : (s.setA v).ports = s.ports := rfl
@[simp] theorem State.setA_cfg (s : State) (v : Byte) : (s.setA v).cfg = s.cfg := rfl

@[simp] theorem State.setF_a (s : State) (v : Byte) : (s.setF v).a = s.a := rfl
@[simp] theorem State.setF_f (s : State) (v : Byte) : (s.setF v).f = v := rfl
@[simp] theorem State.setF_b (s : State) (v : Byte) : (s.setF v).b = s.b := rfl
@[simp] theorem State.setF_c (s : State) (v : Byte) : (s.setF v).c = s.c := rfl
@[simp] theorem State.setF_d (s : State) (v : Byte) : (s.setF v).d = s.d := rfl
@[simp] theorem State.setF_e (s : State) (v : Byte) : (s.setF v).e = s.e := rfl
@[simp] theorem State.setF_h (s : State) (v : Byte) : (s.setF v).h = s.h := rfl
@[simp] theorem State.setF_l (s : State) (v : Byte) : (s.setF v).l = s.l := rfl
@[simp] theorem State.setF_afAlt (s : State) (v : Byte) : (s.setF v).afAlt = s.afAlt := rfl
@[simp] theorem State.setF_bcAlt (s : State) (v : Byte) : (s.setF v).bcAlt = s.bcAlt := rfl
@[simp] theorem State.setF_deAlt (s : State) (v : Byte) : (s.setF v).deAlt = s.deAlt := rfl
@[simp] theorem State.setF_hlAlt (s : State) (v : Byte) : (s.setF v).hlAlt = s.hlAlt := rfl
@[simp] theorem State.setF_ix (s : State) (v : Byte) : (s.setF v).ix = s.ix := rfl
@[simp] theorem State.setF_iy (s : State) (v : Byte) : (s.setF v).iy = s.iy := rfl
@[simp] theorem State.setF_sp (s : State) (v : Byte) : (s.setF v).sp = s.sp := rfl
@[simp] theorem State.setF_pc (s : State) (v : Byte) : (s.setF v).pc = s.pc := rfl
@[simp] theorem State.setF_i (s : State) (v : Byte) : (s.setF v).i = s.i := rfl
@[simp] theorem State.setF_r (s : State) (v : Byte) : (s.setF v).r = s.r := rfl
@[simp] theorem State.setF_mw (s : State) (v : Byte) : (s.setF v).mw = s.mw := rfl
@[simp] theorem State.setF_iff1 (s : State) (v : Byte) : (s.setF v).iff1 = s.iff1 := rfl
@[simp] theorem State.setF_iff2 (s : State) (v : Byte) : (s.setF v).iff2 = s.iff2 := rfl
@[simp] theorem State.setF_im (s : State) (v : Byte) : (s.setF v).im = s.im := rfl
@[simp] theorem State.setF_intBlocked (s : State) (v : Byte) : (s.setF v).intBlocked = s.intBlocked := rfl
@[simp] theorem State.setF_reqReset (s : State) (v : Byte) : (s.setF v).reqReset = s.reqReset := rfl
@[simp] theorem State.setF_reqInt (s : State) (v : Byte) : (s.setF v).reqInt = s.reqInt := rfl
@[simp] theorem State.setF_reqNmi (s : State) (v : Byte) : (s.setF v).reqNmi = s.reqNmi := rfl
@[simp] theorem State.setF_halted (s : State) (v : Byte) : (s.setF v).halted = s.halted := rfl
@[simp] theorem State.setF_prefixMode (s : State) (v : Byte) : (s.setF v).prefixMode = s.prefixMode := rfl
@[simp] theorem State.setF_indexMode (s : State) (v : Byte) : (s.setF v).indexMode = s.indexMode := rfl
@[simp] theorem State.setF_heldDisp (s : State) (v : Byte) : (s.setF v).heldDisp = s.heldDisp := rfl
@[simp] theorem State.setF_tacts (s : State) (v : Byte) : (s.setF v).tacts = s.tacts := rfl
@[simp] theorem State.setF_devRaised (s : State) (v : Byte) : (s.setF v).devRaised = s.devRaised := rfl
@[simp] theorem State.setF_devRevoked (s : State) (v : Byte) : (s.setF v).devRevoked = s.devRevoked := rfl
@[simp] theorem State.setF_devFrame (s : State) (v : Byte) : (s.setF v).devFrame = s.devFrame := rfl
@[simp] theorem State.setF_mem (s : State) (v : Byte) : (s.setF v).mem = s.mem := rfl
@[simp] theorem State.setF_ports (s : State) (v : Byte) : (s.setF v).ports = s.ports := rfl
@[simp] theorem State.setF_cfg (s : State) (v : Byte) : (s.setF v).cfg = s.cfg := rfl

@[simp] theorem State.setB_a (s : State) (v : Byte) : (s.setB v).a = s.a := rfl
@[simp] theorem State.setB_f (s : State) (v : Byte) : (s.setB v).f = s.f := rfl
@[simp] theorem State.setB_b (s : State) (v : Byte) : (s.setB v).b = v := rfl
@[simp] theorem State.setB_c (s : State) (v : Byte) : (s.setB v).c = s.c := rfl
@[simp] theorem State.setB_d (s : State) (v : Byte) : (s.setB v).d = s.d := rfl
@[simp] theorem State.setB_e (s : State) (v : Byte) : (s.setB v).e = s.e := rfl
@[simp] theorem State.setB_h (s : State) (v : Byte) : (s.setB v).h = s.h := rfl
@[simp] theorem State.setB_l (s : State) (v : Byte) : (s.setB v).l = s.l := rfl
@[simp] theorem State.setB_afAlt (s : State) (v : Byte) : (s.setB v).afAlt = s.afAlt := rfl
@[simp] theorem State.setB_bcAlt (s : State) (v : Byte) : (s.setB v).bcAlt = s.bcAlt := rfl
@[simp] theorem State.setB_deAlt (s : State) (v : Byte) : (s.setB v).deAlt = s.deAlt := rfl
@[simp] theorem State.setB_hlAlt (s : State) (v : Byte) : (s.setB v).hlAlt = s.hlAlt := rfl
@[simp] theorem State.setB_ix (s : State) (v : Byte) : (s.setB v).ix = s.ix := rfl
@[simp] theorem State.setB_iy (s : State) (v : Byte) : (s.setB v).iy = s.iy := rfl
@[simp] theorem State.setB_sp (s : State) (v : Byte) : (s.setB v).sp = s.sp := rfl
@[simp] theorem State.setB_pc (s : State) (v : Byte) : (s.setB v).pc = s.pc := rfl
@[simp] theorem State.setB_i (s : State) (v : Byte) : (s.setB v).i = s.i := rfl
@[simp] theorem State.setB_r (s : State) (v : Byte) : (s.setB v).r = s.r := rfl
@[simp] theorem State.setB_mw (s : State) (v : Byte) : (s.setB v).mw = s.mw := rfl
@[simp] theorem State.setB_iff1 (s : State) (v : Byte) : (s.setB v).iff1 = s.iff1 := rfl
@[simp] theorem State.setB_iff2 (s : State) (v : Byte) : (s.setB v).iff2 = s.iff2 := rfl
@[simp] theorem State.setB_im (s : State) (v : Byte) : (s.setB v).im = s.im := rfl
@[simp] theorem State.setB_intBlocked (s : State) (v : Byte) : (s.setB v).intBlocked = s.intBlocked := rfl
@[simp] theorem State.setB_reqReset (s : State) (v : Byte) : (s.setB v).reqReset = s.reqReset := rfl
@[simp] theorem State.setB_reqInt (s : State) (v : Byte) : (s.setB v).reqInt = s.reqInt := rfl
@[simp] theorem State.setB_reqNmi (s : State) (v : Byte) : (s.setB v).reqNmi = s.reqNmi := rfl
@[simp] theorem State.setB_halted (s : State) (v : Byte) : (s.setB v).halted = s.halted := rfl
@[simp] theorem State.setB_prefixMode (s : State) (v : Byte) : (s.setB v).prefixMode = s.prefixMode := rfl
@[simp] theorem State.setB_indexMode (s : State) (v : Byte) : (s.setB v).indexMode = s.indexMode := rfl
@[simp] theorem State.setB_heldDisp (s : State) (v : Byte) : (s.setB v).heldDisp = s.heldDisp := rfl
@[simp] theorem State.setB_tacts (s : State) (v : Byte) : (s.setB v).tacts = s.tacts := rfl
@[simp] theorem State.setB_devRaised (s : State) (v : Byte) : (s.setB v).devRaised = s.devRaised := rfl
@[simp] theorem State.setB_devRevoked (s : State) (v : Byte) : (s.setB v).devRevoked = s.devRevoked := rfl
@[simp] theorem State.setB_devFrame (s : State) (v : Byte) : (s.setB v).devFrame = s.devFrame := rfl
@[simp] theorem State.setB_mem (s : State) (v : Byte) : (s.setB v).mem = s.mem := rfl
@[simp] theorem State.setB_ports (s : State) (v : Byte) : (s.setB v).ports = s.ports := rfl
@[simp] theorem State.setB_cfg (s : State) (v : Byte) : (s.setB v).cfg = s.cfg := rfl

@[simp] theorem State.setI_a (s : State) (v : Byte) : (s.setI v).a = s.a := rfl
@[simp] theorem State.setI_f (s : State) (v : Byte) : (s.setI v).f = s.f := rfl
@[simp] theorem State.setI_b (s : State) (v : Byte) : (s.setI v).b = s.b := rfl
@[simp] theorem State.setI_c (s : State) (v : Byte) : (s.setI v).c = s.c := rfl
@[simp] theorem State.setI_d (s : State) (v : Byte) : (s.setI v).d = s.d := rfl
@[simp] theorem State.setI_e (s : State) (v : Byte) : (s.setI v).e = s.e := rfl
@[simp] theorem State.setI_h (s : State) (v : Byte) : (s.setI v).h = s.h := rfl
@[simp] theorem State.setI_l (s : State) (v : Byte) : (s.setI v).l = s.l := rfl
@[simp] theorem State.setI_afAlt (s : State) (v : Byte) : (s.setI v).afAlt = s.afAlt := rfl
@[simp] theorem State.setI_bcAlt (s : State) (v : Byte) : (s.setI v).bcAlt = s.bcAlt := rfl
@[simp] theorem State.setI_deAlt (s : State) (v : Byte) : (s.setI v).deAlt = s.deAlt := rfl
@[simp] theorem State.setI_hlAlt (s : State) (v : Byte) : (s.setI v).hlAlt = s.hlAlt := rfl
@[simp] theorem State.setI_ix (s : State) (v : Byte) : (s.setI v).ix = s.ix := rfl
@[simp] theorem State.setI_iy (s : State) (v : Byte) : (s.setI v).iy = s.iy := rfl
@[simp] theorem State.setI_sp (s : State) (v : Byte) : (s.setI v).sp = s.sp := rfl
@[simp] theorem State.setI_pc (s : State) (v : Byte) : (s.setI v).pc = s.pc := rfl
@[simp] theorem State.setI_i (s : State) (v : Byte) : (s.setI v).i = v := rfl
@[simp] theorem State.setI_r (s : State) (v : Byte) : (s.setI v).r = s.r := rfl
@[simp] theorem State.setI_mw (s : State) (v : Byte) : (s.setI v).mw = s.mw := rfl
@[simp] theorem State.setI_iff1 (s : State) (v : Byte) : (s.setI v).iff1 = s.iff1 := rfl
@[simp] theorem State.setI_iff2 (s : State) (v : Byte) : (s.setI v).iff2 = s.iff2 := rfl
@[simp] theorem State.setI_im (s : State) (v : Byte) : (s.setI v).im = s.im := rfl
@[simp] theorem State.setI_intBlocked (s : State) (v : Byte) : (s.setI v).intBlocked = s.intBlocked := rfl
@[simp] theorem State.setI_reqReset (s : State) (v : Byte) : (s.setI v).reqReset = s.reqReset := rfl
@[simp] theorem State.setI_reqInt (s : State) (v : Byte) : (s.setI v).reqInt = s.reqInt := rfl
@[simp] theorem State.setI_reqNmi (s : State) (v : Byte) : (s.setI v).reqNmi = s.reqNmi := rfl
@[simp] theorem State.setI_halted (s : State) (v : Byte) : (s.setI v).halted = s.halted := rfl
@[simp] theorem State.setI_prefixMode (s : State) (v : Byte) : (s.setI v).prefixMode = s.prefixMode := rfl
@[simp] theorem State.setI_indexMode (s : State) (v : Byte) : (s.setI v).indexMode = s.indexMode := rfl
@[simp] theorem State.setI_heldDisp (s : State) (v : Byte) : (s.setI v).heldDisp = s.heldDisp := rfl
@[simp] theorem State.setI_tacts (s : State) (v : Byte) : (s.setI v).tacts = s.tacts := rfl
@[simp] theorem State.setI_devRaised (s : State) (v : Byte) : (s.setI v).devRaised = s.devRaised := rfl
@[simp] theorem State.setI_devRevoked (s : State) (v : Byte) : (s.setI v).devRevoked = s.devRevoked := rfl
@[simp] theorem State.setI_devFrame (s : State) (v : Byte) : (s.setI v).devFrame = s.devFrame := rfl
@[simp] theorem State.setI_mem (s : State) (v : Byte) : (s.setI v).mem = s.mem := rfl
@[simp] theorem State.setI_ports (s : State) (v : Byte) : (s.setI v).ports = s.ports := rfl
@[simp] theorem State.setI_cfg (s : State) (v : Byte) : (s.setI v).cfg = s.cfg := rfl

@[simp] theorem State.setR_a (s : State) (v : Byte) : (s.setR v).a = s.a := rfl
@[simp] theorem State.setR_f (s : State) (v : Byte) : (s.setR v).f = s.f := rfl
@[simp] theorem State.setR_b (s : State) (v : Byte) : (s.setR v).b = s.b := rfl
@[simp] theorem State.setR_c (s : State) (v : Byte) : (s.setR v).c = s.c := rfl
@[simp] theorem State.setR_d (s : State) (v : Byte) : (s.setR v).d = s.d := rfl
@[simp] theorem State.setR_e (s : State) (v : Byte) : (s.setR v).e = s.e := rfl
@[simp] theorem State.setR_h (s : State) (v : Byte) : (s.setR v).h = s.h := rfl
@[simp] theorem State.setR_l (s : State) (v : Byte) : (s.setR v).l = s.l := rfl
@[simp] theorem State.setR_afAlt (s : State) (v : Byte) : (s.setR v).afAlt = s.afAlt := rfl
@[simp] theorem State.setR_bcAlt (s : State) (v : Byte) : (s.setR v).bcAlt = s.bcAlt := rfl
@[simp] theorem State.setR_deAlt (s : State) (v : Byte) : (s.setR v).deAlt = s.deAlt := rfl
@[simp] theorem State.setR_hlAlt (s : State) (v : Byte) : (s.setR v).hlAlt = s.hlAlt := rfl
@[simp] theorem State.setR_ix (s : State) (v : Byte) : (s.setR v).ix = s.ix := rfl
@[simp] theorem State.setR_iy (s : State) (v : Byte) : (s.setR v).iy = s.iy := rfl
@[simp] theorem State.setR_sp (s : State) (v : Byte) : (s.setR v).sp = s.sp := rfl
@[simp] theorem State.setR_pc (s : State) (v : Byte) : (s.setR v).pc = s.pc := rfl
@[simp] theorem State.setR_i (s : State) (v : Byte) : (s.setR v).i = s.i := rfl
@[simp] theorem State.setR_r (s : State) (v : Byte) : (s.setR v).r = v := rfl
@[simp] theorem State.setR_mw (s : State) (v : Byte) : (s.setR v).mw = s.mw := rfl
@[simp] theorem State.setR_iff1 (s : State) (v : Byte) : (s.setR v).iff1 = s.iff1 := rfl
@[simp] theorem State.setR_iff2 (s : State) (v : Byte) : (s.setR v).iff2 = s.iff2 := rfl
@[simp] theorem State.setR_im (s : State) (v : Byte) : (s.setR v).im = s.im := rfl
@[simp] theorem State.setR_intBlocked (s : State) (v : Byte) : (s.setR v).intBlocked = s.intBlocked := rfl
@[simp] theorem State.setR_reqReset (s : State) (v : Byte) : (s.setR v).reqReset = s.reqReset := rfl
@[simp] theorem State.setR_reqInt (s : State) (v : Byte) : (s.setR v).reqInt = s.reqInt := rfl
@[simp] theorem State.setR_reqNmi (s : State) (v : Byte) : (s.setR v).reqNmi = s.reqNmi := rfl
@[simp] theorem State.setR_halted (s : State) (v : Byte) : (s.setR v).halted = s.halted := rfl
@[simp] theorem State.setR_prefixMode (s : State) (v : Byte) : (s.setR v).prefixMode = s.prefixMode := rfl
@[simp] theorem State.setR_indexMode (s : State) (v : Byte) : (s.setR v).indexMode = s.indexMode := rfl
@[simp] theorem State.setR_heldDisp (s : State) (v : Byte) : (s.setR v).heldDisp = s.heldDisp := rfl
@[simp] theorem State.setR_tacts (s : State) (v : Byte) : (s.setR v).tacts = s.tacts := rfl
@[simp] theorem State.setR_devRaised (s : State) (v : Byte) : (s.setR v).devRaised = s.devRaised := rfl
@[simp] theorem State.setR_devRevoked (s : State) (v : Byte) : (s.setR v).devRevoked = s.devRevoked := rfl
@[simp] theorem State.setR_devFrame (s : State) (v : Byte) : (s.setR v).devFrame = s.devFrame := rfl
@[simp] theorem State.setR_mem (s : State) (v : Byte) : (s.setR v).mem = s.mem := rfl
@[simp] theorem State.setR_ports (s : State) (v : Byte) : (s.setR v).ports = s.ports := rfl
@[simp] theorem State.setR_cfg (s : State) (v : Byte) : (s.setR v).cfg = s.cfg := rfl

@[simp] theorem State.setSp_a (s : State) (w : Word) : (s.setSp w).a = s.a := rfl
@[simp] theorem State.setSp_f (s : State) (w : Word) : (s.setSp w).f = s.f := rfl
@[simp] theorem State.setSp_b (s : State) (w : Word) : (s.setSp w).b = s.b := rfl
@[simp] theorem State.setSp_c (s : State) (w : Word) : (s.setSp w).c = s.c := rfl
@[simp] theorem State.setSp_d (s : State) (w : Word) : (s.setSp w).d = s.d := rfl
@[simp] theorem State.setSp_e (s : State) (w : Word) : (s.setSp w).e = s.e := rfl
@[simp] theorem State.setSp_h (s : State) (w : Word) : (s.setSp w).h = s.h := rfl
@[simp] theorem State.setSp_l (s : State) (w : Word) : (s.setSp w).l = s.l := rfl
@[simp] theorem State.setSp_afAlt (s : State) (w : Word) : (s.setSp w).afAlt = s.afAlt := rfl
@[simp] theorem State.setSp_bcAlt (s : State) (w : Word) : (s.setSp w).bcAlt = s.bcAlt := rfl
@[simp] theorem State.setSp_deAlt (s : State) (w : Word) : (s.setSp w).deAlt = s.deAlt := rfl
@[simp] theorem State.setSp_hlAlt (s : State) (w : Word) : (s.setSp w).hlAlt = s.hlAlt := rfl
@[simp] theorem State.setSp_ix (s : State) (w : Word) : (s.setSp w).ix = s.ix := rfl
@[simp] theorem State.setSp_iy (s : State) (w : Word) : (s.setSp w).iy = s.iy := rfl
@[simp] theorem State.setSp_sp (s : State) (w : Word) : (s.setSp w).sp = w := rfl
@[simp] theorem State.setSp_pc (s : State) (w : Word) : (s.setSp w).pc = s.pc := rfl
@[simp] theorem State.setSp_i (s : State) (w : Word) : (s.setSp w).i = s.i := rfl
@[simp] theorem State.setSp_r (s : State) (w : Word) : (s.setSp w).r = s.r := rfl
@[simp] theorem State.setSp_mw (s : State) (w : Word) : (s.setSp w).mw = s.mw := rfl
@[simp] theorem State.setSp_iff1 (s : State) (w : Word) : (s.setSp w).iff1 = s.iff1 := rfl
@[simp] theorem State.setSp_iff2 (s : State) (w : Word) : (s.setSp w).iff2 = s.iff2 := rfl
@[simp] theorem State.setSp_im (s : State) (w : Word) : (s.setSp w).im = s.im := rfl
@[simp] theorem State.setSp_intBlocked (s : State) (w : Word) : (s.setSp w).intBlocked = s.intBlocked := rfl
@[simp] theorem State.setSp_reqReset (s : State) (w : Word) : (s.setSp w).reqReset = s.reqReset := rfl
@[simp] theorem State.setSp_reqInt (s : State) (w : Word) : (s.setSp w).reqInt = s.reqInt := rfl
@[simp] theorem State.setSp_reqNmi (s : State) (w : Word) : (s.setSp w).reqNmi = s.reqNmi := rfl
@[simp] theorem State.setSp_halted (s : State) (w : Word) : (s.setSp w).halted = s.halted := rfl
@[simp] theorem State.setSp_prefixMode (s : State) (w : Word) : (s.setSp w).prefixMode = s.prefixMode := rfl
@[simp] theorem State.setSp_indexMode (s : State) (w : Word) : (s.setSp w).indexMode = s.indexMode := rfl
@[simp] theorem State.setSp_heldDisp (s : State) (w : Word) : (s.setSp w).heldDisp = s.heldDisp := rfl
@[simp] theorem State.setSp_tacts (s : State) (w : Word) : (s.setSp w).tacts = s.tacts := rfl
@[simp] theorem State.setSp_devRaised (s : State) (w : Word) : (s.setSp w).devRaised = s.devRaised := rfl
@[simp] theorem State.setSp_devRevoked (s : State) (w : Word) : (s.setSp w).devRevoked = s.devRevoked := rfl
@[simp] theorem State.setSp_devFrame (s : State) (w : Word) : (s.setSp w).devFrame = s.devFrame := rfl
@[simp] theorem State.setSp_mem (s : State) (w : Word) : (s.setSp w).mem = s.mem := rfl
@[simp] theorem State.setSp_ports (s : State) (w : Word) : (s.setSp w).ports = s.ports := rfl
@[simp] theorem State.setSp_cfg (s : State) (w : Word) : (s.setSp w).cfg = s.cfg := rfl

@[simp] theorem State.setPc_a (s : State) (w : Word) : (s.setPc w).a = s.a := rfl
@[simp] theorem State.setPc_f (s : State) (w : Word) : (s.setPc w).f = s.f := rfl
@[simp] theorem State.setPc_b (s : State) (w : Word) : (s.setPc w).b = s.b := rfl
@[simp] theorem State.setPc_c (s : State) (w : Word) : (s.setPc w).c = s.c := rfl
@[simp] theorem State.setPc_d (s : State) (w : Word) : (s.setPc w).d = s.d := rfl
@[simp] theorem State.setPc_e (s : State) (w : Word) : (s.setPc w).e = s.e := rfl
@[simp] theorem State.setPc_h (s : State) (w : Word) : (s.setPc w).h = s.h := rfl
@[simp] theorem State.setPc_l (s : State) (w : Word) : (s.setPc w).l = s.l := rfl
@[simp] theorem State.setPc_afAlt (s : State) (w : Word) : (s.setPc w).afAlt = s.afAlt := rfl
@[simp] theorem State.setPc_bcAlt (s : State) (w : Word) : (s.setPc w).bcAlt = s.bcAlt := rfl
@[simp] theorem State.setPc_deAlt (s : State) (w : Word) : (s.setPc w).deAlt = s.deAlt := rfl
@[simp] theorem State.setPc_hlAlt (s : State) (w : Word) : (s.setPc w).hlAlt = s.hlAlt := rfl
@[simp] theorem State.setPc_ix (s : State) (w : Word) : (s.setPc w).ix = s.ix := rfl
@[simp] theorem State.setPc_iy (s : State) (w : Word) : (s.setPc w).iy = s.iy := rfl
@[simp] theorem State.setPc_sp (s : State) (w : Word) : (s.setPc w).sp = s.sp := rfl
@[simp] theorem State.setPc_pc (s : State) (w : Word) : (s.setPc w).pc = w := rfl
@[simp] theorem State.setPc_i (s : State) (w : Word) : (s.setPc w).i = s.i := rfl
@[simp] theorem State.setPc_r (s : State) (w : Word) : (s.setPc w).r = s.r := rfl
@[simp] theorem State.setPc_mw (s : State) (w : Word) : (s.setPc w).mw = s.mw := rfl
@[simp] theorem State.setPc_iff1 (s : State) (w : Word) : (s.setPc w).iff1 = s.iff1 := rfl
@[simp] theorem State.setPc_iff2 (s : State) (w : Word) : (s.setPc w).iff2 = s.iff2 := rfl
@[simp] theorem State.setPc_im (s : State) (w : Word) : (s.setPc w).im = s.im := rfl
@[simp] theorem State.setPc_intBlocked (s : State) (w : Word) : (s.setPc w).intBlocked = s.intBlocked := rfl
@[simp] theorem State.setPc_reqReset (s : State) (w : Word) : (s.setPc w).reqReset = s.reqReset := rfl
@[simp] theorem State.setPc_reqInt (s : State) (w : Word) : (s.setPc w).reqInt = s.reqInt := rfl
@[simp] theorem State.setPc_reqNmi (s : State) (w : Word) : (s.setPc w).reqNmi = s.reqNmi := rfl
@[simp] theorem State.setPc_halted (s : State) (w : Word) : (s.setPc w).halted = s.halted := rfl
@[simp] theorem State.setPc_prefixMode (s : State) (w : Word) : (s.setPc w).prefixMode = s.prefixMode := rfl
@[simp] theorem State.setPc_indexMode (s : State) (w : Word) : (s.setPc w).indexMode = s.indexMode := rfl
@[simp] theorem State.setPc_heldDisp (s : State) (w : Word) : (s.setPc w).heldDisp = s.heldDisp := rfl
@[simp] theorem State.setPc_tacts (s : State) (w : Word) : (s.setPc w).tacts = s.tacts := rfl
@[simp] theorem State.setPc_devRaised (s : State) (w : Word) : (s.setPc w).devRaised = s.devRaised := rfl
@[simp] theorem State.setPc_devRevoked (s : State) (w : Word) : (s.setPc w).devRevoked = s.devRevoked := rfl
@[simp] theorem State.setPc_devFrame (s : State) (w : Word) : (s.setPc w).devFrame = s.devFrame := rfl
@[simp] theorem State.setPc_mem (s : State) (w : Word) : (s.setPc w).mem = s.mem := rfl
@[simp] theorem State.setPc_ports (s : State) (w : Word) : (s.setPc w).ports = s.ports := rfl
@[simp] theorem State.setPc_cfg (s : State) (w : Word) : (s.setPc w).cfg = s.cfg := rfl

@[simp] theorem State.setMw_a (s : State) (w : Word) : (s.setMw w).a = s.a := rfl
@[simp] theorem State.setMw_f (s : State) (w : Word) : (s.setMw w).f = s.f := rfl
@[simp] theorem State.setMw_b (s : State) (w : Word) : (s.setMw w).b = s.b := rfl
@[simp] theorem State.setMw_c (s : State) (w : Word) : (s.setMw w).c = s.c := rfl
@[simp] theorem State.setMw_d (s : State) (w : Word) : (s.setMw w).d = s.d := rfl
@[simp] theorem State.setMw_e (s : State) (w : Word) : (s.setMw w).e = s.e := rfl
@[simp] theorem State.setMw_h (s : State) (w : Word) : (s.setMw w).h = s.h := rfl
@[simp] theorem State.setMw_l (s : State) (w : Word) : (s.setMw w).l = s.l := rfl
@[simp] theorem State.setMw_afAlt (s : State) (w : Word) : (s.setMw w).afAlt = s.afAlt := rfl
@[simp] theorem State.setMw_bcAlt (s : State) (w : Word) : (s.setMw w).bcAlt = s.bcAlt := rfl
@[simp] theorem State.setMw_deAlt (s : State) (w : Word) : (s.setMw w).deAlt = s.deAlt := rfl
@[simp] theorem State.setMw_hlAlt (s : State) (w : Word) : (s.setMw w).hlAlt = s.hlAlt := rfl
@[simp] theorem State.setMw_ix (s : State) (w : Word) : (s.setMw w).ix = s.ix := rfl
@[simp] theorem State.setMw_iy (s : State) (w : Word) : (s.setMw w).iy = s.iy := rfl
@[simp] theorem State.setMw_sp (s : State) (w : Word) : (s.setMw w).sp = s.sp := rfl
@[simp] theorem State.setMw_pc (s : State) (w : Word) : (s.setMw w).pc = s.pc := rfl
@[simp] theorem State.setMw_i (s : State) (w : Word) : (s.setMw w).i = s.i := rfl
@[simp] theorem State.setMw_r (s : State) (w : Word) : (s.setMw w).r = s.r := rfl
@[simp] theorem State.setMw_mw (s : State) (w : Word) : (s.setMw w).mw = w := rfl
@[simp] theorem State.setMw_iff1 (s : State) (w : Word) : (s.setMw w).iff1 = s.iff1 := rfl
@[simp] theorem State.setMw_iff2 (s : State) (w : Word) : (s.setMw w).iff2 = s.iff2 := rfl
@[simp] theorem State.setMw_im (s : State) (w : Word) : (s.setMw w).im = s.im := rfl
@[simp] theorem State.setMw_intBlocked (s : State) (w : Word) : (s.setMw w).intBlocked = s.intBlocked := rfl
@[simp] theorem State.setMw_reqReset (s : State) (w : Word) : (s.setMw w).reqReset = s.reqReset := rfl
@[simp] theorem State.setMw_reqInt (s : State) (w : Word) : (s.setMw w).reqInt = s.reqInt := rfl
@[simp] theorem State.setMw_reqNmi (s : State) (w : Word) : (s.setMw w).reqNmi = s.reqNmi := rfl
@[simp] theorem State.setMw_halted (s : State) (w : Word) : (s.setMw w).halted = s.halted := rfl
@[simp] theorem State.setMw_prefixMode (s : State) (w : Word) : (s.setMw w).prefixMode = s.prefixMode := rfl
@[simp] theorem State.setMw_indexMode (s : State) (w : Word) : (s.setMw w).indexMode = s.indexMode := rfl
@[simp] theorem State.setMw_heldDisp (s : State) (w : Word) : (s.setMw w).heldDisp = s.heldDisp := rfl
@[simp] theorem State.setMw_tacts (s : State) (w : Word) : (s.setMw w).tacts = s.tacts := rfl
@[simp] theorem State.setMw_devRaised (s : State) (w : Word) : (s.setMw w).devRaised = s.devRaised := rfl
@[simp] theorem State.setMw_devRevoked (s : State) (w : Word) : (s.setMw w).devRevoked = s.devRevoked := rfl
@[simp] theorem State.setMw_devFrame (s : State) (w : Word) : (s.setMw w).devFrame = s.devFrame := rfl
@[simp] theorem State.setMw_mem (s : State) (w : Word) : (s.setMw w).mem = s.mem := rfl
@[simp] theorem State.setMw_ports (s : State) (w : Word) : (s.setMw w).ports = s.ports := rfl
@[simp] theorem State.setMw_cfg (s : State) (w : Word) : (s.setMw w).cfg = s.cfg := rfl

@[simp] theorem State.setIm_a (s : State) (m : IntMode) : (s.setIm m).a = s.a := rfl
@[simp] theorem State.setIm_f (s : State) (m : IntMode) : (s.setIm m).f = s.f := rfl
@[simp] theorem State.setIm_b (s : State) (m : IntMode) : (s.setIm m).b = s.b := rfl
@[simp] theorem State.setIm_c (s : State) (m : IntMode) : (s.setIm m).c = s.c := rfl
@[simp] theorem State.setIm_d (s : State) (m : IntMode) : (s.setIm m).d = s.d := rfl
@[simp] theorem State.setIm_e (s : State) (m : IntMode) : (s.setIm m).e = s.e := rfl
@[simp] theorem State.setIm_h (s : State) (m : IntMode) : (s.setIm m).h = s.h := rfl
@[simp] theorem State.setIm_l (s : State) (m : IntMode) : (s.setIm m).l = s.l := rfl
@[simp] theorem State.setIm_afAlt (s : State) (m : IntMode) : (s.setIm m).afAlt = s.afAlt := rfl
@[simp] theorem State.setIm_bcAlt (s : State) (m : IntMode) : (s.setIm m).bcAlt = s.bcAlt := rfl
@[simp] theorem State.setIm_deAlt (s : State) (m : IntMode) : (s.setIm m).deAlt = s.deAlt := rfl
@[simp] theorem State.setIm_hlAlt (s : State) (m : IntMode) : (s.setIm m).hlAlt = s.hlAlt := rfl
@[simp] theorem State.setIm_ix (s : State) (m : IntMode) : (s.setIm m).ix = s.ix := rfl
@[simp] theorem State.setIm_iy (s : State) (m : IntMode) : (s.setIm m).iy = s.iy := rfl
@[simp] theorem State.setIm_sp (s : State) (m : IntMode) : (s.setIm m).sp = s.sp := rfl
@[simp] theorem State.setIm_pc (s : State) (m : IntMode) : (s.setIm m).pc = s.pc := rfl
@[simp] theorem State.setIm_i (s : State) (m : IntMode) : (s.setIm m).i = s.i := rfl
@[simp] theorem State.setIm_r (s : State) (m : IntMode) : (s.setIm m).r = s.r := rfl
@[simp] theorem State.setIm_mw (s : State) (m : IntMode) : (s.setIm m).mw = s.mw := rfl
@[simp] theorem State.setIm_iff1 (s : State) (m : IntMode) : (s.setIm m).iff1 = s.iff1 := rfl
@[simp] theorem State.setIm_iff2 (s : State) (m : IntMode) : (s.setIm m).iff2 = s.iff2 := rfl
@[simp] theorem State.setIm_im (s : State) (m : IntMode) : (s.setIm m).im = m := rfl
@[simp] theorem State.setIm_intBlocked (s : State) (m : IntMode) : (s.setIm m).intBlocked = s.intBlocked := rfl
@[simp] theorem State.setIm_reqReset (s : State) (m : IntMode) : (s.setIm m).reqReset = s.reqReset := rfl
@[simp] theorem State.setIm_reqInt (s : State) (m : IntMode) : (s.setIm m).reqInt = s.reqInt := rfl
@[simp] theorem State.setIm_reqNmi (s : State) (m : IntMode) : (s.setIm m).reqNmi = s.reqNmi := rfl
@[simp] theorem State.setIm_halted (s : State) (m : IntMode) : (s.setIm m).halted = s.halted := rfl
@[simp] theorem State.setIm_prefixMode (s : State) (m : IntMode) : (s.setIm m).prefixMode = s.prefixMode := rfl
@[simp] theorem State.setIm_indexMode (s : State) (m : IntMode) : (s.setIm m).indexMode = s.indexMode := rfl
@[simp] theorem State.setIm_heldDisp (s : State) (m : IntMode) : (s.setIm m).heldDisp = s.heldDisp := rfl
@[simp] theorem State.setIm_tacts (s : State) (m : IntMode) : (s.setIm m).tacts = s.tacts := rfl
@[simp] theorem State.setIm_devRaised (s : State) (m : IntMode) : (s.setIm m).devRaised = s.devRaised := rfl
@[simp] theorem State.setIm_devRevoked (s : State) (m : IntMode) : (s.setIm m).devRevoked = s.devRevoked := rfl
@[simp] theorem State.setIm_devFrame (s : State) (m : IntMode) : (s.setIm m).devFrame = s.devFrame := rfl
@[simp] theorem State.setIm_mem (s : State) (m : IntMode) : (s.setIm m).mem = s.mem := rfl
@[simp] theorem State.setIm_ports (s : State) (m : IntMode) : (s.setIm m).ports = s.ports := rfl
@[simp] theorem State.setIm_cfg (s : State) (m : IntMode) : (s.setIm m).cfg = s.cfg := rfl

@[simp] theorem State.setIff_a (s : State) (v1 v2 : Bool) : (s.setIff v1 v2).a = s.a := rfl
@[simp] theorem State.setIff_f (s : State) (v1 v2 : Bool) : (s.setIff v1 v2).f = s.f := rfl
@[simp] theorem State.setIff_b (s : State) (v1 v2 : Bool) : (s.setIff v1 v2).b = s.b := rfl
@[simp] theorem State.setIff_c (s : State) (v1 v2 : Bool) : (s.setIff v1 v2).c = s.c := rfl
@[simp] theorem State.setIff_d (s : State) (v1 v2 : Bool) : (s.setIff v1 v2).d = s.d := rfl
@[simp] theorem State.setIff_e (s : State) (v1 v2 : Bool) : (s.setIff v1 v2).e = s.e := rfl
@[simp] theorem State.setIff_h (s : State) (v1 v2 : Bool) : (s.setIff v1 v2).h = s.h := rfl
@[simp] theorem State.setIff_l (s : State) (v1 v2 : Bool) : (s.setIff v1 v2).l = s.l := rfl
@[simp] theorem State.setIff_afAlt (s : State) (v1 v2 : Bool) : (s.setIff v1 v2).afAlt = s.afAlt := rfl
@[simp] theorem State.setIff_bcAlt (s : State) (v1 v2 : Bool) : (s.setIff v1 v2).bcAlt = s.bcAlt := rfl
@[simp] theorem State.setIff_deAlt (s : State) (v1 v2 : Bool) : (s.setIff v1 v2).deAlt = s.deAlt := rfl
@[simp] theorem State.setIff_hlAlt (s : State) (v1 v2 : Bool) : (s.setIff v1 v2).hlAlt = s.hlAlt := rfl
@[simp] theorem State.setIff_ix (s : State) (v1 v2 : Bool) : (s.setIff v1 v2).ix = s.ix := rfl
@[simp] theorem State.setIff_iy (s : State) (v1 v2 : Bool) : (s.setIff v1 v2).iy = s.iy := rfl
@[simp] theorem State.setIff_sp (s : State) (v1 v2 : Bool) : (s.setIff v1 v2).sp = s.sp := rfl
@[simp] theorem State.setIff_pc (s : State) (v1 v2 : Bool) : (s.setIff v1 v2).pc = s.pc := rfl
@[simp] theorem State.setIff_i (s : State) (v1 v2 : Bool) : (s.setIff v1 v2).i = s.i := rfl
@[simp] theorem State.setIff_r (s : State) (v1 v2 : Bool) : (s.setIff v1 v2).r = s.r := rfl
@[simp] theorem State.setIff_mw (s : State) (v1 v2 : Bool) : (s.setIff v1 v2).mw = s.mw := rfl
@[simp] theorem State.setIff_iff1 (s : State) (v1 v2 : Bool) : (s.setIff v1 v2).iff1 = v1 := rfl
@[simp] theorem State.setIff_iff2 (s : State) (v1 v2 : Bool) : (s.setIff v1 v2).iff2 = v2 := rfl
@[simp] theorem State.setIff_im (s : State) (v1 v2 : Bool) : (s.setIff v1 v2).im = s.im := rfl
@[simp] theorem State.setIff_intBlocked (s : State) (v1 v2 : Bool) : (s.setIff v1 v2).intBlocked = s.intBlocked := rfl
@[simp] theorem State.setIff_reqReset (s : State) (v1 v2 : Bool) : (s.setIff v1 v2).reqReset = s.reqReset := rfl
@[simp] theorem State.setIff_reqInt (s : State) (v1 v2 : Bool) : (s.setIff v1 v2).reqInt = s.reqInt := rfl
@[simp] theorem State.setIff_reqNmi (s : State) (v1 v2 : Bool) : (s.setIff v1 v2).reqNmi = s.reqNmi := rfl
@[simp] theorem State.setIff_halted (s : State) (v1 v2 : Bool) : (s.setIff v1 v2).halted = s.halted := rfl
@[simp] theorem State.setIff_prefixMode (s : State) (v1 v2 : Bool) : (s.setIff v1 v2).prefixMode = s.prefixMode := rfl
@[simp] theorem State.setIff_indexMode (s : State) (v1 v2 : Bool) : (s.setIff v1 v2).indexMode = s.indexMode := rfl
@[simp] theorem State.setIff_heldDisp (s : State) (v1 v2 : Bool) : (s.setIff v1 v2).heldDisp = s.heldDisp := rfl
@[simp] theorem State.setIff_tacts (s : State) (v1 v2 : Bool) : (s.setIff v1 v2).tacts = s.tacts := rfl
@[simp] theorem State.setIff_devRaised (s : State) (v1 v2 : Bool) : (s.setIff v1 v2).devRaised = s.devRaised := rfl
@[simp] theorem State.setIff_devRevoked (s : State) (v1 v2 : Bool) : (s.setIff v1 v2).devRevoked = s.devRevoked := rfl
@[simp] theorem State.setIff_devFrame (s : State) (v1 v2 : Bool) : (s.setIff v1 v2).devFrame = s.devFrame := rfl
@[simp] theorem State.setIff_mem (s : State) (v1 v2 : Bool) : (s.setIff v1 v2).mem = s.mem := rfl
@[simp] theorem State.setIff_ports (s : State) (v1 v2 : Bool) : (s.setIff v1 v2).ports = s.ports := rfl
@[simp] theorem State.setIff_cfg (s : State) (v1 v2 : Bool) : (s.setIff v1 v2).cfg = s.cfg := rfl

@[simp] theorem State.blockInt_a (s : State) : s.blockInt.a = s.a := rfl
@[simp] theorem State.blockInt_f (s : State) : s.blockInt.f = s.f := rfl
@[simp] theorem State.blockInt_b (s : State) : s.blockInt.b = s.b := rfl
@[simp] theorem State.blockInt_c (s : State) : s.blockInt.c = s.c := rfl
@[simp] theorem State.blockInt_d (s : State) : s.blockInt.d = s.d := rfl
@[simp] theorem State.blockInt_e (s : State) : s.blockInt.e = s.e := rfl
@[simp] theorem State.blockInt_h (s : State) : s.blockInt.h = s.h := rfl
@[simp] theorem State.blockInt_l (s : State) : s.blockInt.l = s.l := rfl
@[simp] theorem State.blockInt_afAlt (s : State) : s.blockInt.afAlt = s.afAlt := rfl
@[simp] theorem State.blockInt_bcAlt (s : State) : s.blockInt.bcAlt = s.bcAlt := rfl
@[simp] theorem State.blockInt_deAlt (s : State) : s.blockInt.deAlt = s.deAlt := rfl
@[simp] theorem State.blockInt_hlAlt (s : State) : s.blockInt.hlAlt = s.hlAlt := rfl
@[simp] theorem State.blockInt_ix (s : State) : s.blockInt.ix = s.ix := rfl
@[simp] theorem State.blockInt_iy (s : State) : s.blockInt.iy = s.iy := rfl
@[simp] theorem State.blockInt_sp (s : State) : s.blockInt.sp = s.sp := rfl
@[simp] theorem State.blockInt_pc (s : State) : s.blockInt.pc = s.pc := rfl
@[simp] theorem State.blockInt_i (s : State) : s.blockInt.i = s.i := rfl
@[simp] theorem State.blockInt_r (s : State) : s.blockInt.r = s.r := rfl
@[simp] theorem State.blockInt_mw (s : State) : s.blockInt.mw = s.mw := rfl
@[simp] theorem State.blockInt_iff1 (s : State) : s.blockInt.iff1 = s.iff1 := rfl
@[simp] theorem State.blockInt_iff2 (s : State) : s.blockInt.iff2 = s.iff2 := rfl
@[simp] theorem State.blockInt_im (s : State) : s.blockInt.im = s.im := rfl
@[simp] theorem State.blockInt_intBlocked (s : State) : s.blockInt.intBlocked = true := rfl
@[simp] theorem State.blockInt_reqReset (s : State) : s.blockInt.reqReset = s.reqReset := rfl
@[simp] theorem State.blockInt_reqInt (s : State) : s.blockInt.reqInt = s.reqInt := rfl
@[simp] theorem State.blockInt_reqNmi (s : State) : s.blockInt.reqNmi = s.reqNmi := rfl
@[simp] theorem State.blockInt_halted (s : State) : s.blockInt.halted = s.halted := rfl
@[simp] theorem State.blockInt_prefixMode (s : State) : s.blockInt.prefixMode = s.prefixMode := rfl
@[simp] theorem State.blockInt_indexMode (s : State) : s.blockInt.indexMode = s.indexMode := rfl
@[simp] theorem State.blockInt_heldDisp (s : State) : s.blockInt.heldDisp = s.heldDisp := rfl
@[simp] theorem State.blockInt_tacts (s : State) : s.blockInt.tacts = s.tacts := rfl
@[simp] theorem State.blockInt_devRaised (s : State) : s.blockInt.devRaised = s.devRaised := rfl
@[simp] theorem State.blockInt_devRevoked (s : State) : s.blockInt.devRevoked = s.devRevoked := rfl
@[simp] theorem State.blockInt_devFrame (s : State) : s.blockInt.devFrame = s.devFrame := rfl
@[simp] theorem State.blockInt_mem (s : State) : s.blockInt.mem = s.mem := rfl
@[simp] theorem State.blockInt_ports (s : State) : s.blockInt.ports = s.ports := rfl
@[simp] theorem State.blockInt_cfg (s : State) : s.blockInt.cfg = s.cfg := rfl

@[simp] theorem State.setAf_a (s : State) (w : Word) : (s.setAf w).a = hi w := rfl
@[simp] theorem State.setAf_f (s : State) (w : Word) : (s.setAf w).f = lo w := rfl
@[simp] theorem State.setAf_b (s : State) (w : Word) : (s.setAf w).b = s.b := rfl
@[simp] theorem State.setAf_c (s : State) (w : Word) : (s.setAf w).c = s.c := rfl
@[simp] theorem State.setAf_d (s : State) (w : Word) : (s.setAf w).d = s.d := rfl
@[simp] theorem State.setAf_e (s : State) (w : Word) : (s.setAf w).e = s.e := rfl
@[simp] theorem State.setAf_h (s : State) (w : Word) : (s.setAf w).h = s.h := rfl
@[simp] theorem State.setAf_l (s : State) (w : Word) : (s.setAf w).l = s.l := rfl
@[simp] theorem State.setAf_afAlt (s : State) (w : Word) : (s.setAf w).afAlt = s.afAlt := rfl
@[simp] theorem State.setAf_bcAlt (s : State) (w : Word) : (s.setAf w).bcAlt = s.bcAlt := rfl
@[simp] theorem State.setAf_deAlt (s : State) (w : Word) : (s.setAf w).deAlt = s.deAlt := rfl
@[simp] theorem State.setAf_hlAlt (s : State) (w : Word) : (s.setAf w).hlAlt = s.hlAlt := rfl
@[simp] theorem State.setAf_ix (s : State) (w : Word) : (s.setAf w).ix = s.ix := rfl
@[simp] theorem State.setAf_iy (s : State) (w : Word) : (s.setAf w).iy = s.iy := rfl
@[simp] theorem State.setAf_sp (s : State) (w : Word) : (s.setAf w).sp = s.sp := rfl
@[simp] theorem State.setAf_pc (s : State) (w : Word) : (s.setAf w).pc = s.pc := rfl
@[simp] theorem State.setAf_i (s : State) (w : Word) : (s.setAf w).i = s.i := rfl
@[simp] theorem State.setAf_r (s : State) (w : Word) : (s.setAf w).r = s.r := rfl
@[simp] theorem State.setAf_mw (s : State) (w : Word) : (s.setAf w).mw = s.mw := rfl
@[simp] theorem State.setAf_iff1 (s : State) (w : Word) : (s.setAf w).iff1 = s.iff1 := rfl
@[simp] theorem State.setAf_iff2 (s : State) (w : Word) : (s.setAf w).iff2 = s.iff2 := rfl
@[simp] theorem State.setAf_im (s : State) (w : Word) : (s.setAf w).im = s.im := rfl
@[simp] theorem State.setAf_intBlocked (s : State) (w : Word) : (s.setAf w).intBlocked = s.intBlocked := rfl
@[simp] theorem State.setAf_reqReset (s : State) (w : Word) : (s.setAf w).reqReset = s.reqReset := rfl
@[simp] theorem State.setAf_reqInt (s : State) (w : Word) : (s.setAf w).reqInt = s.reqInt := rfl
@[simp] theorem State.setAf_reqNmi (s : State) (w : Word) : (s.setAf w).reqNmi = s.reqNmi := rfl
@[simp] theorem State.setAf_halted (s : State) (w : Word) : (s.setAf w).halted = s.halted := rfl
@[simp] theorem State.setAf_prefixMode (s : State) (w : Word) : (s.setAf w).prefixMode = s.prefixMode := rfl
@[simp] theorem State.setAf_indexMode (s : State) (w : Word) : (s.setAf w).indexMode = s.indexMode := rfl
@[simp] theorem State.setAf_heldDisp (s : State) (w : Word) : (s.setAf w).heldDisp = s.heldDisp := rfl
@[simp] theorem State.setAf_tacts (s : State) (w : Word) : (s.setAf w).tacts = s.tacts := rfl
@[simp] theorem State.setAf_devRaised (s : State) (w : Word) : (s.setAf w).devRaised = s.devRaised := rfl
@[simp] theorem State.setAf_devRevoked (s : State) (w : Word) : (s.setAf w).devRevoked = s.devRevoked := rfl
@[simp] theorem State.setAf_devFrame (s : State) (w : Word) : (s.setAf w).devFrame = s.devFrame := rfl
@[simp] theorem State.setAf_mem (s : State) (w : Word) : (s.setAf w).mem = s.mem := rfl
@[simp] theorem State.setAf_ports (s : State) (w : Word) : (s.setAf w).ports = s.ports := rfl
@[simp] theorem State.setAf_cfg (s : State) (w : Word) : (s.setAf w).cfg = s.cfg := rfl

@[simp] theorem State.setBc_a (s : State) (w : Word) : (s.setBc w).a = s.a := rfl
@[simp] theorem State.setBc_f (s : State) (w : Word) : (s.setBc w).f = s.f := rfl
@[simp] theorem State.setBc_b (s : State) (w : Word) : (s.setBc w).b = hi w := rfl
@[simp] theorem State.setBc_c (s : State) (w : Word) : (s.setBc w).c = lo w := rfl
@[simp] theorem State.setBc_d (s : State) (w : Word) : (s.setBc w).d = s.d := rfl
@[simp] theorem State.setBc_e (s : State) (w : Word) : (s.setBc w).e = s.e := rfl
@[simp] theorem State.setBc_h (s : State) (w : Word) : (s.setBc w).h = s.h := rfl
@[simp] theorem State.setBc_l (s : State) (w : Word) : (s.setBc w).l = s.l := rfl
@[simp] theorem State.setBc_afAlt (s : State) (w : Word) : (s.setBc w).afAlt = s.afAlt := rfl
@[simp] theorem State.setBc_bcAlt (s : State) (w : Word) : (s.setBc w).bcAlt = s.bcAlt := rfl
@[simp] theorem State.setBc_deAlt (s : State) (w : Word) : (s.setBc w).deAlt = s.deAlt := rfl
@[simp] theorem State.setBc_hlAlt (s : State) (w : Word) : (s.setBc w).hlAlt = s.hlAlt := rfl
@[simp] theorem State.setBc_ix (s : State) (w : Word) : (s.setBc w).ix = s.ix := rfl
@[simp] theorem State.setBc_iy (s : State) (w : Word) : (s.setBc w).iy = s.iy := rfl
@[simp] theorem State.setBc_sp (s : State) (w : Word) : (s.setBc w).sp = s.sp := rfl
@[simp] theorem State.setBc_pc (s : State) (w : Word) : (s.setBc w).pc = s.pc := rfl
@[simp] theorem State.setBc_i (s : State) (w : Word) : (s.setBc w).i = s.i := rfl
@[simp] theorem State.setBc_r (s : State) (w : Word) : (s.setBc w).r = s.r := rfl
@[simp] theorem State.setBc_mw (s : State) (w : Word) : (s.setBc w).mw = s.mw := rfl
@[simp] theorem State.setBc_iff1 (s : State) (w : Word) : (s.setBc w).iff1 = s.iff1 := rfl
@[simp] theorem State.setBc_iff2 (s : State) (w : Word) : (s.setBc w).iff2 = s.iff2 := rfl
@[simp] theorem State.setBc_im (s : State) (w : Word) : (s.setBc w).im = s.im := rfl
@[simp] theorem State.setBc_intBlocked (s : State) (w : Word) : (s.setBc w).intBlocked = s.intBlocked := rfl
@[simp] theorem State.setBc_reqReset (s : State) (w : Word) : (s.setBc w).reqReset = s.reqReset := rfl
@[simp] theorem State.setBc_reqInt (s : State) (w : Word) : (s.setBc w).reqInt = s.reqInt := rfl
@[simp] theorem State.setBc_reqNmi (s : State) (w : Word) : (s.setBc w).reqNmi = s.reqNmi := rfl
@[simp] theorem State.setBc_halted (s : State) (w : Word) : (s.setBc w).halted = s.halted := rfl
@[simp] theorem State.setBc_prefixMode (s : State) (w : Word) : (s.setBc w).prefixMode = s.prefixMode := rfl
@[simp] theorem State.setBc_indexMode (s : State) (w : Word) : (s.setBc w).indexMode = s.indexMode := rfl
@[simp] theorem State.setBc_heldDisp (s : State) (w : Word) : (s.setBc w).heldDisp = s.heldDisp := rfl
@[simp] theorem State.setBc_tacts (s : State) (w : Word) : (s.setBc w).tacts = s.tacts := rfl
@[simp] theorem State.setBc_devRaised (s : State) (w : Word) : (s.setBc w).devRaised = s.devRaised := rfl
@[simp] theorem State.setBc_devRevoked (s : State) (w : Word) : (s.setBc w).devRevoked = s.devRevoked := rfl
@[simp] theorem State.setBc_devFrame (s : State) (w : Word) : (s.setBc w).devFrame = s.devFrame := rfl
@[simp] theorem State.setBc_mem (s : State) (w : Word) : (s.setBc w).mem = s.mem := rfl
@[simp] theorem State.setBc_ports (s : State) (w : Word) : (s.setBc w).ports = s.ports := rfl
@[simp] theorem State.setBc_cfg (s : State) (w : Word) : (s.setBc w).cfg = s.cfg := rfl

@[simp] theorem State.setDe_a (s : State) (w : Word) : (s.setDe w).a = s.a := rfl
@[simp] theorem State.setDe_f (s : State) (w : Word) : (s.setDe w).f = s.f := rfl
@[simp] theorem State.setDe_b (s : State) (w : Word) : (s.setDe w).b = s.b := rfl
@[simp] theorem State.setDe_c (s : State) (w : Word) : (s.setDe w).c = s.c := rfl
@[simp] theorem State.setDe_d (s : State) (w : Word) : (s.setDe w).d = hi w := rfl
@[simp] theorem State.setDe_e (s : State) (w : Word) : (s.setDe w).e = lo w := rfl
@[simp] theorem State.setDe_h (s : State) (w : Word) : (s.setDe w).h = s.h := rfl
@[simp] theorem State.setDe_l (s : State) (w : Word) : (s.setDe w).l = s.l := rfl
@[simp] theorem State.setDe_afAlt (s : State) (w : Word) : (s.setDe w).afAlt = s.afAlt := rfl
@[simp] theorem State.setDe_bcAlt (s : State) (w : Word) : (s.setDe w).bcAlt = s.bcAlt := rfl
@[simp] theorem State.setDe_deAlt (s : State) (w : Word) : (s.setDe w).deAlt = s.deAlt := rfl
@[simp] theorem State.setDe_hlAlt (s : State) (w : Word) : (s.setDe w).hlAlt = s.hlAlt := rfl
@[simp] theorem State.setDe_ix (s : State) (w : Word) : (s.setDe w).ix = s.ix := rfl
@[simp] theorem State.setDe_iy (s : State) (w : Word) : (s.setDe w).iy = s.iy := rfl
@[simp] theorem State.setDe_sp (s : State) (w : Word) : (s.setDe w).sp = s.sp := rfl
@[simp] theorem State.setDe_pc (s : State) (w : Word) : (s.setDe w).pc = s.pc := rfl
@[simp] theorem State.setDe_i (s : State) (w : Word) : (s.setDe w).i = s.i := rfl
@[simp] theorem State.setDe_r (s : State) (w : Word) : (s.setDe w).r = s.r := rfl
@[simp] theorem State.setDe_mw (s : State) (w : Word) : (s.setDe w).mw = s.mw := rfl
@[simp] theorem State.setDe_iff1 (s : State) (w : Word) : (s.setDe w).iff1 = s.iff1 := rfl
@[simp] theorem State.setDe_iff2 (s : State) (w : Word) : (s.setDe w).iff2 = s.iff2 := rfl
@[simp] theorem State.setDe_im (s : State) (w : Word) : (s.setDe w).im = s.im := rfl
@[simp] theorem State.setDe_intBlocked (s : State) (w : Word) : (s.setDe w).intBlocked = s.intBlocked := rfl
@[simp] theorem State.setDe_reqReset (s : State) (w : Word) : (s.setDe w).reqReset = s.reqReset := rfl
@[simp] theorem State.setDe_reqInt (s : State) (w : Word) : (s.setDe w).reqInt = s.reqInt := rfl
@[simp] theorem State.setDe_reqNmi (s : State) (w : Word) : (s.setDe w).reqNmi = s.reqNmi := rfl
@[simp] theorem State.setDe_halted (s : State) (w : Word) : (s.setDe w).halted = s.halted := rfl
@[simp] theorem State.setDe_prefixMode (s : State) (w : Word) : (s.setDe w).prefixMode = s.prefixMode := rfl
@[simp] theorem State.setDe_indexMode (s : State) (w : Word) : (s.setDe w).indexMode = s.indexMode := rfl
@[simp] theorem State.setDe_heldDisp (s : State) (w : Word) : (s.setDe w).heldDisp = s.heldDisp := rfl
@[simp] theorem State.setDe_tacts (s : State) (w : Word) : (s.setDe w).tacts = s.tacts := rfl
@[simp] theorem State.setDe_devRaised (s : State) (w : Word) : (s.setDe w).devRaised = s.devRaised := rfl
@[simp] theorem State.setDe_devRevoked (s : State) (w : Word) : (s.setDe w).devRevoked = s.devRevoked := rfl
@[simp] theorem State.setDe_devFrame (s : State) (w : Word) : (s.setDe w).devFrame = s.devFrame := rfl
@[simp] theorem State.setDe_mem (s : State) (w : Word) : (s.setDe w).mem = s.mem := rfl
@[simp] theorem State.setDe_ports (s : State) (w : Word) : (s.setDe w).ports = s.ports := rfl
@[simp] theorem State.setDe_cfg (s : State) (w : Word) : (s.setDe w).cfg = s.cfg := rfl

@[simp] theorem State.setHl_a (s : State) (w : Word) : (s.setHl w).a = s.a := rfl
@[simp] theorem State.setHl_f (s : State) (w : Word) : (s.setHl w).f = s.f := rfl
@[simp] theorem State.setHl_b (s : State) (w : Word) : (s.setHl w).b = s.b := rfl
@[simp] theorem State.setHl_c (s : State) (w : Word) : (s.setHl w).c = s.c := rfl
@[simp] theorem State.setHl_d (s : State) (w : Word) : (s.setHl w).d = s.d := rfl
@[simp] theorem State.setHl_e (s : State) (w : Word) : (s.setHl w).e = s.e := rfl
@[simp] theorem State.setHl_h (s : State) (w : Word) : (s.setHl w).h = hi w := rfl
@[simp] theorem State.setHl_l (s : State) (w : Word) : (s.setHl w).l = lo w := rfl
@[simp] theorem State.setHl_afAlt (s : State) (w : Word) : (s.setHl w).afAlt = s.afAlt := rfl
@[simp] theorem State.setHl_bcAlt (s : State) (w : Word) : (s.setHl w).bcAlt = s.bcAlt := rfl
@[simp] theorem State.setHl_deAlt (s : State) (w : Word) : (s.setHl w).deAlt = s.deAlt := rfl
@[simp] theorem State.setHl_hlAlt (s : State) (w : Word) : (s.setHl w).hlAlt = s.hlAlt := rfl
@[simp] theorem State.setHl_ix (s : State) (w : Word) : (s.setHl w).ix = s.ix := rfl
@[simp] theorem State.setHl_iy (s : State) (w : Word) : (s.setHl w).iy = s.iy := rfl
@[simp] theorem State.setHl_sp (s : State) (w : Word) : (s.setHl w).sp = s.sp := rfl
@[simp] theorem State.setHl_pc (s : State) (w : Word) : (s.setHl w).pc = s.pc := rfl
@[simp] theorem State.setHl_i (s : State) (w : Word) : (s.setHl w).i = s.i := rfl
@[simp] theorem State.setHl_r (s : State) (w : Word) : (s.setHl w).r = s.r := rfl
@[simp] theorem State.setHl_mw (s : State) (w : Word) : (s.setHl w).mw = s.mw := rfl
@[simp] theorem State.setHl_iff1 (s : State) (w : Word) : (s.setHl w).iff1 = s.iff1 := rfl
@[simp] theorem State.setHl_iff2 (s : State) (w : Word) : (s.setHl w).iff2 = s.iff2 := rfl
@[simp] theorem State.setHl_im (s : State) (w : Word) : (s.setHl w).im = s.im := rfl
@[simp] theorem State.setHl_intBlocked (s : State) (w : Word) : (s.setHl w).intBlocked = s.intBlocked := rfl
@[simp] theorem State.setHl_reqReset (s : State) (w : Word) : (s.setHl w).reqReset = s.reqReset := rfl
@[simp] theorem State.setHl_reqInt (s : State) (w : Word) : (s.setHl w).reqInt = s.reqInt := rfl
@[simp] theorem State.setHl_reqNmi (s : State) (w : Word) : (s.setHl w).reqNmi = s.reqNmi := rfl
@[simp] theorem State.setHl_halted (s : State) (w : Word) : (s.setHl w).halted = s.halted := rfl
@[simp] theorem State.setHl_prefixMode (s : State) (w : Word) : (s.setHl w).prefixMode = s.prefixMode := rfl
@[simp] theorem State.setHl_indexMode (s : State) (w : Word) : (s.setHl w).indexMode = s.indexMode := rfl
@[simp] theorem State.setHl_heldDisp (s : State) (w : Word) : (s.setHl w).heldDisp = s.heldDisp := rfl
@[simp] theorem State.setHl_tacts (s : State) (w : Word) : (s.setHl w).tacts = s.tacts := rfl
@[simp] theorem State.setHl_devRaised (s : State) (w : Word) : (s.setHl w).devRaised = s.devRaised := rfl
@[simp] theorem State.setHl_devRevoked (s : State) (w : Word) : (s.setHl w).devRevoked = s.devRevoked := rfl
@[simp] theorem State.setHl_devFrame (s : State) (w : Word) : (s.setHl w).devFrame = s.devFrame := rfl
@[simp] theorem State.setHl_mem (s : State) (w : Word) : (s.setHl w).mem = s.mem := rfl
@[simp] theorem State.setHl_ports (s : State) (w : Word) : (s.setHl w).ports = s.ports := rfl
@[simp] theorem State.setHl_cfg (s : State) (w : Word) : (s.setHl w).cfg = s.cfg := rfl

@[simp] theorem State.tick_a (s : State) (n : Nat) : (s.tick n).a = s.a := rfl
@[simp] theorem State.tick_f (s : State) (n : Nat) : (s.tick n).f = s.f := rfl
@[simp] theorem State.tick_b (s : State) (n : Nat) : (s.tick n).b = s.b := rfl
@[simp] theorem State.tick_c (s : State) (n : Nat) : (s.tick n).c = s.c := rfl
@[simp] theorem State.tick_d (s : State) (n : Nat) : (s.tick n).d = s.d := rfl
@[simp] theorem State.tick_e (s : State) (n : Nat) : (s.tick n).e = s.e := rfl
@[simp] theorem State.tick_h (s : State) (n : Nat) : (s.tick n).h = s.h := rfl
@[simp] theorem State.tick_l (s : State) (n : Nat) : (s.tick n).l = s.l := rfl
@[simp] theorem State.tick_afAlt (s : State) (n : Nat) : (s.tick n).afAlt = s.afAlt := rfl
@[simp] theorem State.tick_bcAlt (s : State) (n : Nat) : (s.tick n).bcAlt = s.bcAlt := rfl
@[simp] theorem State.tick_deAlt (s : State) (n : Nat) : (s.tick n).deAlt = s.deAlt := rfl
@[simp] theorem State.tick_hlAlt (s : State) (n : Nat) : (s.tick n).hlAlt = s.hlAlt := rfl
@[simp] theorem State.tick_ix (s : State) (n : Nat) : (s.tick n).ix = s.ix := rfl
@[simp] theorem State.tick_iy (s : State) (n : Nat) : (s.tick n).iy = s.iy := rfl
@[simp] theorem State.tick_sp (s : State) (n : Nat) : (s.tick n).sp = s.sp := rfl
@[simp] theorem State.tick_pc (s : State) (n : Nat) : (s.tick n).pc = s.pc := rfl
@[simp] theorem State.tick_i (s : State) (n : Nat) : (s.tick n).i = s.i := rfl
@[simp] theorem State.tick_r (s : State) (n : Nat) : (s.tick n).r = s.r := rfl
@[simp] theorem State.tick_mw (s : State) (n : Nat) : (s.tick n).mw = s.mw := rfl
@[simp] theorem State.tick_iff1 (s : State) (n : Nat) : (s.tick n).iff1 = s.iff1 := rfl
@[simp] theorem State.tick_iff2 (s : State) (n : Nat) : (s.tick n).iff2 = s.iff2 := rfl
@[simp] theorem State.tick_im (s : State) (n : Nat) : (s.tick n).im = s.im := rfl
@[simp] theorem State.tick_intBlocked (s : State) (n : Nat) : (s.tick n).intBlocked = s.intBlocked := rfl
@[simp] theorem State.tick_reqReset (s : State) (n : Nat) : (s.tick n).reqReset = s.reqReset := rfl
@[simp] theorem State.tick_reqInt (s : State) (n : Nat) : (s.tick n).reqInt = s.reqInt := rfl
@[simp] theorem State.tick_reqNmi (s : State) (n : Nat) : (s.tick n).reqNmi = s.reqNmi := rfl
@[simp] theorem State.tick_halted (s : State) (n : Nat) : (s.tick n).halted = s.halted := rfl
@[simp] theorem State.tick_prefixMode (s : State) (n : Nat) : (s.tick n).prefixMode = s.prefixMode := rfl
@[simp] theorem State.tick_indexMode (s : State) (n : Nat) : (s.tick n).indexMode = s.indexMode := rfl
@[simp] theorem State.tick_heldDisp (s : State) (n : Nat) : (s.tick n).heldDisp = s.heldDisp := rfl
@[simp] theorem State.tick_tacts (s : State) (n : Nat) : (s.tick n).tacts = s.tacts + BitVec.ofNat 64 n := rfl
@[simp] theorem State.tick_devRaised (s : State) (n : Nat) : (s.tick n).devRaised = s.devRaised := rfl
@[simp] theorem State.tick_devRevoked (s : State) (n : Nat) : (s.tick n).devRevoked = s.devRevoked := rfl
@[simp] theorem State.tick_devFrame (s : State) (n : Nat) : (s.tick n).devFrame = s.devFrame := rfl
@[simp] theorem State.tick_mem (s : State) (n : Nat) : (s.tick n).mem = s.mem := rfl
@[simp] theorem State.tick_ports (s : State) (n : Nat) : (s.tick n).ports = s.ports := rfl
@[simp] theorem State.tick_cfg (s : State) (n : Nat) : (s.tick n).cfg = s.cfg := rfl

@[simp] theorem State.refresh_a (s : State) : s.refresh.a = s.a := rfl
@[simp] theorem State.refresh_f (s : State) : s.refresh.f = s.f := rfl
@[simp] theorem State.refresh_b (s : State) : s.refresh.b = s.b := rfl
@[simp] theorem State.refresh_c (s : State) : s.refresh.c = s.c := rfl
@[simp] theorem State.refresh_d (s : State) : s.refresh.d = s.d := rfl
@[simp] theorem State.refresh_e (s : State) : s.refresh.e = s.e := rfl
@[simp] theorem State.refresh_h (s : State) : s.refresh.h = s.h := rfl
@[simp] theorem State.refresh_l (s : State) : s.refresh.l = s.l := rfl
@[simp] theorem State.refresh_afAlt (s : State) : s.refresh.afAlt = s.afAlt := rfl
@[simp] theorem State.refresh_bcAlt (s : State) : s.refresh.bcAlt = s.bcAlt := rfl
@[simp] theorem State.refresh_deAlt (s : State) : s.refresh.deAlt = s.deAlt := rfl
@[simp] theorem State.refresh_hlAlt (s : State) : s.refresh.hlAlt = s.hlAlt := rfl
@[simp] theorem State.refresh_ix (s : State) : s.refresh.ix = s.ix := rfl
@[simp] theorem State.refresh_iy (s : State) : s.refresh.iy = s.iy := rfl
@[simp] theorem State.refresh_sp (s : State) : s.refresh.sp = s.sp := rfl
@[simp] theorem State.refresh_pc (s : State) : s.refresh.pc = s.pc := rfl
@[simp] theorem State.refresh_i (s : State) : s.refresh.i = s.i := rfl
@[simp] theorem State.refresh_r (s : State) : s.refresh.r = bumpR s.r := rfl
@[simp] theorem State.refresh_mw (s : State) : s.refresh.mw = s.mw := rfl
@[simp] theorem State.refresh_iff1 (s : State) : s.refresh.iff1 = s.iff1 := rfl
@[simp] theorem State.refresh_iff2 (s : State) : s.refresh.iff2 = s.iff2 := rfl
@[simp] theorem State.refresh_im (s : State) : s.refresh.im = s.im := rfl
@[simp] theorem State.refresh_intBlocked (s : State) : s.refresh.intBlocked = s.intBlocked := rfl
@[simp] theorem State.refresh_reqReset (s : State) : s.refresh.reqReset = s.reqReset := rfl
@[simp] theorem State.refresh_reqInt (s : State) : s.refresh.reqInt = s.reqInt := rfl
@[simp] theorem State.refresh_reqNmi (s : State) : s.refresh.reqNmi = s.reqNmi := rfl
@[simp] theorem State.refresh_halted (s : State) : s.refresh.halted = s.halted := rfl
@[simp] theorem State.refresh_prefixMode (s : State) : s.refresh.prefixMode = s.prefixMode := rfl
@[simp] theorem State.refresh_indexMode (s : State) : s.refresh.indexMode = s.indexMode := rfl
@[simp] theorem State.refresh_heldDisp (s : State) : s.refresh.heldDisp = s.heldDisp := rfl
@[simp] theorem State.refresh_tacts (s : State) : s.refresh.tacts = s.tacts := rfl
@[simp] theorem State.refresh_devRaised (s : State) : s.refresh.devRaised = s.devRaised := rfl
@[simp] theorem State.refresh_devRevoked (s : State) : s.refresh.devRevoked = s.devRevoked := rfl
@[simp] theorem State.refresh_devFrame (s : State) : s.refresh.devFrame = s.devFrame := rfl
@[simp] theorem State.refresh_mem (s : State) : s.refresh.mem = s.mem := rfl
@[simp] theorem State.refresh_ports (s : State) : s.refresh.ports = s.ports := rfl
@[simp] theorem State.refresh_cfg (s : State) : s.refresh.cfg = s.cfg := rfl

@[simp] theorem State.load_a (s : State) (x : Word) (v : Byte) : (s.load x v).a = s.a := rfl
@[simp] theorem State.load_f (s : State) (x : Word) (v : Byte) : (s.load x v).f = s.f := rfl
@[simp] theorem State.load_b (s : State) (x : Word) (v : Byte) : (s.load x v).b = s.b := rfl
@[simp] theorem State.load_c (s : State) (x : Word) (v : Byte) : (s.load x v).c = s.c := rfl
@[simp] theorem State.load_d (s : State) (x : Word) (v : Byte) : (s.load x v).d = s.d := rfl
@[simp] theorem State.load_e (s : State) (x : Word) (v : Byte) : (s.load x v).e = s.e := rfl
@[simp] theorem State.load_h (s : State) (x : Word) (v : Byte) : (s.load x v).h = s.h := rfl
@[simp] theorem State.load_l (s : State) (x : Word) (v : Byte) : (s.load x v).l = s.l := rfl
@[simp] theorem State.load_afAlt (s : State) (x : Word) (v : Byte) : (s.load x v).afAlt = s.afAlt := rfl
@[simp] theorem State.load_bcAlt (s : State) (x : Word) (v : Byte) : (s.load x v).bcAlt = s.bcAlt := rfl
@[simp] theorem State.load_deAlt (s : State) (x : Word) (v : Byte) : (s.load x v).deAlt = s.deAlt := rfl
@[simp] theorem State.load_hlAlt (s : State) (x : Word) (v : Byte) : (s.load x v).hlAlt = s.hlAlt := rfl
@[simp] theorem State.load_ix (s : State) (x : Word) (v : Byte) : (s.load x v).ix = s.ix := rfl
@[simp] theorem State.load_iy (s : State) (x : Word) (v : Byte) : (s.load x v).iy = s.iy := rfl
@[simp] theorem State.load_sp (s : State) (x : Word) (v : Byte) : (s.load x v).sp = s.sp := rfl
@[simp] theorem State.load_pc (s : State) (x : Word) (v : Byte) : (s.load x v).pc = s.pc := rfl
@[simp] theorem State.load_i (s : State) (x : Word) (v : Byte) : (s.load x v).i = s.i := rfl
@[simp] theorem State.load_r (s : State) (x : Word) (v : Byte) : (s.load x v).r = s.r := rfl
@[simp] theorem State.load_mw (s : State) (x : Word) (v : Byte) : (s.load x v).mw = s.mw := rfl
@[simp] theorem State.load_iff1 (s : State) (x : Word) (v : Byte) : (s.load x v).iff1 = s.iff1 := rfl
@[simp] theorem State.load_iff2 (s : State) (x : Word) (v : Byte) : (s.load x v).iff2 = s.iff2 := rfl
@[simp] theorem State.load_im (s : State) (x : Word) (v : Byte) : (s.load x v).im = s.im := rfl
@[simp] theorem State.load_intBlocked (s : State) (x : Word) (v : Byte) : (s.load x v).intBlocked = s.intBlocked := rfl
@[simp] theorem State.load_reqReset (s : State) (x : Word) (v : Byte) : (s.load x v).reqReset = s.reqReset := rfl
@[simp] theorem State.load_reqInt (s : State) (x : Word) (v : Byte) : (s.load x v).reqInt = s.reqInt := rfl
@[simp] theorem State.load_reqNmi (s : State) (x : Word) (v : Byte) : (s.load x v).reqNmi = s.reqNmi := rfl
@[simp] theorem State.load_halted (s : State) (x : Word) (v : Byte) : (s.load x v).halted = s.halted := rfl
@[simp] theorem State.load_prefixMode (s : State) (x : Word) (v : Byte) : (s.load x v).prefixMode = s.prefixMode := rfl
@[simp] theorem State.load_indexMode (s : State) (x : Word) (v : Byte) : (s.load x v).indexMode = s.indexMode := rfl
@[simp] theorem State.load_heldDisp (s : State) (x : Word) (v : Byte) : (s.load x v).heldDisp = s.heldDisp := rfl
@[simp] theorem State.load_tacts (s : State) (x : Word) (v : Byte) : (s.load x v).tacts = s.tacts := rfl
@[simp] theorem State.load_devRaised (s : State) (x : Word) (v : Byte) : (s.load x v).devRaised = s.devRaised := rfl
@[simp] theorem State.load_devRevoked (s : State) (x : Word) (v : Byte) : (s.load x v).devRevoked = s.devRevoked := rfl
@[simp] theorem State.load_devFrame (s : State) (x : Word) (v : Byte) : (s.load x v).devFrame = s.devFrame := rfl
@[simp] theorem State.load_mem (s : State) (x : Word) (v : Byte) : (s.load x v).mem = s.mem.write x.toNat v := rfl
@[simp] theorem State.load_ports (s : State) (x : Word) (v : Byte) : (s.load x v).ports = s.ports := rfl
@[simp] theorem State.load_cfg (s : State) (x : Word) (v : Byte) : (s.load x v).cfg = s.cfg := rfl

@[simp] theorem State.fetchOpcode_a (s : State) : s.fetchOpcode.a = s.a := rfl
@[simp] theorem State.fetchOpcode_f (s : State) : s.fetchOpcode.f = s.f := rfl
@[simp] theorem State.fetchOpcode_b (s : State) : s.fetchOpcode.b = s.b := rfl
@[simp] theorem State.fetchOpcode_c (s : State) : s.fetchOpcode.c = s.c := rfl
@[simp] theorem State.fetchOpcode_d (s : State) : s.fetchOpcode.d = s.d := rfl
@[simp] theorem State.fetchOpcode_e (s : State) : s.fetchOpcode.e = s.e := rfl
@[simp] theorem State.fetchOpcode_h (s : State) : s.fetchOpcode.h = s.h := rfl
@[simp] theorem State.fetchOpcode_l (s : State) : s.fetchOpcode.l = s.l := rfl
@[simp] theorem State.fetchOpcode_afAlt (s : State) : s.fetchOpcode.afAlt = s.afAlt := rfl
@[simp] theorem State.fetchOpcode_bcAlt (s : State) : s.fetchOpcode.bcAlt = s.bcAlt := rfl
@[simp] theorem State.fetchOpcode_deAlt (s : State) : s.fetchOpcode.deAlt = s.deAlt := rfl
@[simp] theorem State.fetchOpcode_hlAlt (s : State) : s.fetchOpcode.hlAlt = s.hlAlt := rfl
@[simp] theorem State.fetchOpcode_ix (s : State) : s.fetchOpcode.ix = s.ix := rfl
@[simp] theorem State.fetchOpcode_iy (s : State) : s.fetchOpcode.iy = s.iy := rfl
@[simp] theorem State.fetchOpcode_sp (s : State) : s.fetchOpcode.sp = s.sp := rfl
@[simp] theorem State.fetchOpcode_pc (s : State) : s.fetchOpcode.pc = s.pc + 1 := rfl
@[simp] theorem State.fetchOpcode_i (s : State) : s.fetchOpcode.i = s.i := rfl
@[simp] theorem State.fetchOpcode_r (s : State) : s.fetchOpcode.r = bumpR s.r := rfl
@[simp] theorem State.fetchOpcode_mw (s : State) : s.fetchOpcode.mw = s.mw := rfl
@[simp] theorem State.fetchOpcode_iff1 (s : State) : s.fetchOpcode.iff1 = s.iff1 := rfl
@[simp] theorem State.fetchOpcode_iff2 (s : State) : s.fetchOpcode.iff2 = s.iff2 := rfl
@[simp] theorem State.fetchOpcode_im (s : State) : s.fetchOpcode.im = s.im := rfl
@[simp] theorem State.fetchOpcode_intBlocked (s : State) : s.fetchOpcode.intBlocked = s.intBlocked := rfl
@[simp] theorem State.fetchOpcode_reqReset (s : State) : s.fetchOpcode.reqReset = s.reqReset := rfl
@[simp] theorem State.fetchOpcode_reqInt (s : State) : s.fetchOpcode.reqInt = s.reqInt := rfl
@[simp] theorem State.fetchOpcode_reqNmi (s : State) : s.fetchOpcode.reqNmi = s.reqNmi := rfl
@[simp] theorem State.fetchOpcode_halted (s : State) : s.fetchOpcode.halted = s.halted := rfl
@[simp] theorem State.fetchOpcode_prefixMode (s : State) : s.fetchOpcode.prefixMode = s.prefixMode := rfl
@[simp] theorem State.fetchOpcode_indexMode (s : State) : s.fetchOpcode.indexMode = s.indexMode := rfl
@[simp] theorem State.fetchOpcode_heldDisp (s : State) : s.fetchOpcode.heldDisp = s.heldDisp := rfl
@[simp] theorem State.fetchOpcode_tacts (s : State) :
    s.fetchOpcode.tacts = s.tacts + BitVec.ofNat 64 (s.waitMem s.pc) + 4 := rfl
@[simp] theorem State.fetchOpcode_devRaised (s : State) : s.fetchOpcode.devRaised = s.devRaised := rfl
@[simp] theorem State.fetchOpcode_devRevoked (s : State) : s.fetchOpcode.devRevoked = s.devRevoked := rfl
@[simp] theorem State.fetchOpcode_devFrame (s : State) : s.fetchOpcode.devFrame = s.devFrame := rfl
@[simp] theorem State.fetchOpcode_mem (s : State) : s.fetchOpcode.mem = s.mem := rfl
@[simp] theorem State.fetchOpcode_ports (s : State) : s.fetchOpcode.ports = s.ports := rfl
@[simp] theorem State.fetchOpcode_cfg (s : State) : s.fetchOpcode.cfg = s.cfg := rfl

@[simp] theorem State.fetchByte_a (s : State) : s.fetchByte.a = s.a := rfl
@[simp] theorem State.fetchByte_f (s : State) : s.fetchByte.f = s.f := rfl
@[simp] theorem State.fetchByte_b (s : State) : s.fetchByte.b = s.b := rfl
@[simp] theorem State.fetchByte_c (s : State) : s.fetchByte.c = s.c := rfl
@[simp] theorem State.fetchByte_d (s : State) : s.fetchByte.d = s.d := rfl
@[simp] theorem State.fetchByte_e (s : State) : s.fetchByte.e = s.e := rfl
@[simp] theorem State.fetchByte_h (s : State) : s.fetchByte.h = s.h := rfl
@[simp] theorem State.fetchByte_l (s : State) : s.fetchByte.l = s.l := rfl
@[simp] theorem State.fetchByte_afAlt (s : State) : s.fetchByte.afAlt = s.afAlt := rfl
@[simp] theorem State.fetchByte_bcAlt (s : State) : s.fetchByte.bcAlt = s.bcAlt := rfl
@[simp] theorem State.fetchByte_deAlt (s : State) : s.fetchByte.deAlt = s.deAlt := rfl
@[simp] theorem State.fetchByte_hlAlt (s : State) : s.fetchByte.hlAlt = s.hlAlt := rfl
@[simp] theorem State.fetchByte_ix (s : State) : s.fetchByte.ix = s.ix := rfl
@[simp] theorem State.fetchByte_iy (s : State) : s.fetchByte.iy = s.iy := rfl
@[simp] theorem State.fetchByte_sp (s : State) : s.fetchByte.sp = s.sp := rfl
@[simp] theorem State.fetchByte_pc (s : State) : s.fetchByte.pc = s.pc + 1 := rfl
@[simp] theorem State.fetchByte_i (s : State) : s.fetchByte.i = s.i := rfl
@[simp] theorem State.fetchByte_r (s : State) : s.fetchByte.r = s.r := rfl
@[simp] theorem State.fetchByte_mw (s : State) : s.fetchByte.mw = s.mw := rfl
@[simp] theorem State.fetchByte_iff1 (s : State) : s.fetchByte.iff1 = s.iff1 := rfl
@[simp] theorem State.fetchByte_iff2 (s : State) : s.fetchByte.iff2 = s.iff2 := rfl
@[simp] theorem State.fetchByte_im (s : State) : s.fetchByte.im = s.im := rfl
@[simp] theorem State.fetchByte_intBlocked (s : State) : s.fetchByte.intBlocked = s.intBlocked := rfl
@[simp] theorem State.fetchByte_reqReset (s : State) : s.fetchByte.reqReset = s.reqReset := rfl
@[simp] theorem State.fetchByte_reqInt (s : State) : s.fetchByte.reqInt = s.reqInt := rfl
@[simp] theorem State.fetchByte_reqNmi (s : State) : s.fetchByte.reqNmi = s.reqNmi := rfl
@[simp] theorem State.fetchByte_halted (s : State) : s.fetchByte.halted = s.halted := rfl
@[simp] theorem State.fetchByte_prefixMode (s : State) : s.fetchByte.prefixMode = s.prefixMode := rfl
@[simp] theorem State.fetchByte_indexMode (s : State) : s.fetchByte.indexMode = s.indexMode := rfl
@[simp] theorem State.fetchByte_heldDisp (s : State) : s.fetchByte.heldDisp = s.heldDisp := rfl
@[simp] theorem State.fetchByte_tacts (s : State) :
    s.fetchByte.tacts = s.tacts + BitVec.ofNat 64 (s.waitMem s.pc) + 3 := rfl
@[simp] theorem State.fetchByte_devRaised (s : State) : s.fetchByte.devRaised = s.devRaised := rfl
@[simp] theorem State.fetchByte_devRevoked (s : State) : s.fetchByte.devRevoked = s.devRevoked := rfl
@[simp] theorem State.fetchByte_devFrame (s : State) : s.fetchByte.devFrame = s.devFrame := rfl
@[simp] theorem State.fetchByte_mem (s : State) : s.fetchByte.mem = s.mem := rfl
@[simp] theorem State.fetchByte_ports (s : State) : s.fetchByte.ports = s.ports := rfl
@[simp] theorem State.fetchByte_cfg (s : State) : s.fetchByte.cfg = s.cfg := rfl

@[simp] theorem State.readCycle_a (s : State) (x : Word) : (s.readCycle x).a = s.a := rfl
@[simp] theorem State.readCycle_f (s : State) (x : Word) : (s.readCycle x).f = s.f := rfl
@[simp] theorem State.readCycle_b (s : State) (x : Word) : (s.readCycle x).b = s.b := rfl
@[simp] theorem State.readCycle_c (s : State) (x : Word) : (s.readCycle x).c = s.c := rfl
@[simp] theorem State.readCycle_d (s : State) (x : Word) : (s.readCycle x).d = s.d := rfl
@[simp] theorem State.readCycle_e (s : State) (x : Word) : (s.readCycle x).e = s.e := rfl
@[simp] theorem State.readCycle_h (s : State) (x : Word) : (s.readCycle x).h = s.h := rfl
@[simp] theorem State.readCycle_l (s : State) (x : Word) : (s.readCycle x).l = s.l := rfl
@[simp] theorem State.readCycle_afAlt (s : State) (x : Word) : (s.readCycle x).afAlt = s.afAlt := rfl
@[simp] theorem State.readCycle_bcAlt (s : State) (x : Word) : (s.readCycle x).bcAlt = s.bcAlt := rfl
@[simp] theorem State.readCycle_deAlt (s : State) (x : Word) : (s.readCycle x).deAlt = s.deAlt := rfl
@[simp] theorem State.readCycle_hlAlt (s : State) (x : Word) : (s.readCycle x).hlAlt = s.hlAlt := rfl
@[simp] theorem State.readCycle_ix (s : State) (x : Word) : (s.readCycle x).ix = s.ix := rfl
@[simp] theorem State.readCycle_iy (s : State) (x : Word) : (s.readCycle x).iy = s.iy := rfl
@[simp] theorem State.readCycle_sp (s : State) (x : Word) : (s.readCycle x).sp = s.sp := rfl
@[simp] theorem State.readCycle_pc (s : State) (x : Word) : (s.readCycle x).pc = s.pc := rfl
@[simp] theorem State.readCycle_i (s : State) (x : Word) : (s.readCycle x).i = s.i := rfl
@[simp] theorem State.readCycle_r (s : State) (x : Word) : (s.readCycle x).r = s.r := rfl
@[simp] theorem State.readCycle_mw (s : State) (x : Word) : (s.readCycle x).mw = s.mw := rfl
@[simp] theorem State.readCycle_iff1 (s : State) (x : Word) : (s.readCycle x).iff1 = s.iff1 := rfl
@[simp] theorem State.readCycle_iff2 (s : State) (x : Word) : (s.readCycle x).iff2 = s.iff2 := rfl
@[simp] theorem State.readCycle_im (s : State) (x : Word) : (s.readCycle x).im = s.im := rfl
@[simp] theorem State.readCycle_intBlocked (s : State) (x : Word) : (s.readCycle x).intBlocked = s.intBlocked := rfl
@[simp] theorem State.readCycle_reqReset (s : State) (x : Word) : (s.readCycle x).reqReset = s.reqReset := rfl
@[simp] theorem State.readCycle_reqInt (s : State) (x : Word) : (s.readCycle x).reqInt = s.reqInt := rfl
@[simp] theorem State.readCycle_reqNmi (s : State) (x : Word) : (s.readCycle x).reqNmi = s.reqNmi := rfl
@[simp] theorem State.readCycle_halted (s : State) (x : Word) : (s.readCycle x).halted = s.halted := rfl
@[simp] theorem State.readCycle_prefixMode (s : State) (x : Word) : (s.readCycle x).prefixMode = s.prefixMode := rfl
@[simp] theorem State.readCycle_indexMode (s : State) (x : Word) : (s.readCycle x).indexMode = s.indexMode := rfl
@[simp] theorem State.readCycle_heldDisp (s : State) (x : Word) : (s.readCycle x).heldDisp = s.heldDisp := rfl
@[simp] theorem State.readCycle_tacts (s : State) (x : Word) :
    (s.readCycle x).tacts = s.tacts + BitVec.ofNat 64 (s.waitMem x) + 3 := rfl
@[simp] theorem State.readCycle_devRaised (s : State) (x : Word) : (s.readCycle x).devRaised = s.devRaised := rfl
@[simp] theorem State.readCycle_devRevoked (s : State) (x : Word) : (s.readCycle x).devRevoked = s.devRevoked := rfl
@[simp] theorem State.readCycle_devFrame (s : State) (x : Word) : (s.readCycle x).devFrame = s.devFrame := rfl
@[simp] theorem State.readCycle_mem (s : State) (x : Word) : (s.readCycle x).mem = s.mem := rfl
@[simp] theorem State.readCycle_ports (s : State) (x : Word) : (s.readCycle x).ports = s.ports := rfl
@[simp] theorem State.readCycle_cfg (s : State) (x : Word) : (s.readCycle x).cfg = s.cfg := rfl

@[simp] theorem State.writeByte_a (s : State) (x : Word) (v : Byte) : (s.writeByte x v).a = s.a := rfl
@[simp] theorem State.writeByte_f (s : State) (x : Word) (v : Byte) : (s.writeByte x v).f = s.f := rfl
@[simp] theorem State.writeByte_b (s : State) (x : Word) (v : Byte) : (s.writeByte x v).b = s.b := rfl
@[simp] theorem State.writeByte_c (s : State) (x : Word) (v : Byte) : (s.writeByte x v).c = s.c := rfl
@[simp] theorem State.writeByte_d (s : State) (x : Word) (v : Byte) : (s.writeByte x v).d = s.d := rfl
@[simp] theorem State.writeByte_e (s : State) (x : Word) (v : Byte) : (s.writeByte x v).e = s.e := rfl
@[simp] theorem State.writeByte_h (s : State) (x : Word) (v : Byte) : (s.writeByte x v).h = s.h := rfl
@[simp] theorem State.writeByte_l (s : State) (x : Word) (v : Byte) : (s.writeByte x v).l = s.l := rfl
@[simp] theorem State.writeByte_afAlt (s : State) (x : Word) (v : Byte) : (s.writeByte x v).afAlt = s.afAlt := rfl
@[simp] theorem State.writeByte_bcAlt (s : State) (x : Word) (v : Byte) : (s.writeByte x v).bcAlt = s.bcAlt := rfl
@[simp] theorem State.writeByte_deAlt (s : State) (x : Word) (v : Byte) : (s.writeByte x v).deAlt = s.deAlt := rfl
@[simp] theorem State.writeByte_hlAlt (s : State) (x : Word) (v : Byte) : (s.writeByte x v).hlAlt = s.hlAlt := rfl
@[simp] theorem State.writeByte_ix (s : State) (x : Word) (v : Byte) : (s.writeByte x v).ix = s.ix := rfl
@[simp] theorem State.writeByte_iy (s : State) (x : Word) (v : Byte) : (s.writeByte x v).iy = s.iy := rfl
@[simp] theorem State.writeByte_sp (s : State) (x : Word) (v : Byte) : (s.writeByte x v).sp = s.sp := rfl
@[simp] theorem State.writeByte_pc (s : State) (x : Word) (v : Byte) : (s.writeByte x v).pc = s.pc := rfl
@[simp] theorem State.writeByte_i (s : State) (x : Word) (v : Byte) : (s.writeByte x v).i = s.i := rfl
@[simp] theorem State.writeByte_r (s : State) (x : Word) (v : Byte) : (s.writeByte x v).r = s.r := rfl
@[simp] theorem State.writeByte_mw (s : State) (x : Word) (v : Byte) : (s.writeByte x v).mw = s.mw := rfl
@[simp] theorem State.writeByte_iff1 (s : State) (x : Word) (v : Byte) : (s.writeByte x v).iff1 = s.iff1 := rfl
@[simp] theorem State.writeByte_iff2 (s : State) (x : Word) (v : Byte) : (s.writeByte x v).iff2 = s.iff2 := rfl
@[simp] theorem State.writeByte_im (s : State) (x : Word) (v : Byte) : (s.writeByte x v).im = s.im := rfl
@[simp] theorem State.writeByte_intBlocked (s : State) (x : Word) (v : Byte) :
    (s.writeByte x v).intBlocked = s.intBlocked := rfl
@[simp] theorem State.writeByte_reqReset (s : State) (x : Word) (v : Byte) :
    (s.writeByte x v).reqReset = s.reqReset := rfl
@[simp] theorem State.writeByte_reqInt (s : State) (x : Word) (v : Byte) : (s.writeByte x v).reqInt = s.reqInt := rfl
@[simp] theorem State.writeByte_reqNmi (s : State) (x : Word) (v : Byte) : (s.writeByte x v).reqNmi = s.reqNmi := rfl
@[simp] theorem State.writeByte_halted (s : State) (x : Word) (v : Byte) : (s.writeByte x v).halted = s.halted := rfl
@[simp] theorem State.writeByte_prefixMode (s : State) (x : Word) (v : Byte) :
    (s.writeByte x v).prefixMode = s.prefixMode := rfl
@[simp] theorem State.writeByte_indexMode (s : State) (x : Word) (v : Byte) :
    (s.writeByte x v).indexMode = s.indexMode := rfl
@[simp] theorem State.writeByte_heldDisp (s : State) (x : Word) (v : Byte) :
    (s.writeByte x v).heldDisp = s.heldDisp := rfl
@[simp] theorem State.writeByte_tacts (s : State) (x : Word) (v : Byte) :
    (s.writeByte x v).tacts = s.tacts + BitVec.ofNat 64 (s.waitMem x) + 3 := rfl
@[simp] theorem State.writeByte_devRaised (s : State) (x : Word) (v : Byte) :
    (s.writeByte x v).devRaised = s.devRaised := rfl
@[simp] theorem State.writeByte_devRevoked (s : State) (x : Word) (v : Byte) :
    (s.writeByte x v).devRevoked = s.devRevoked := rfl
@[simp] theorem State.writeByte_devFrame (s : State) (x : Word) (v : Byte) :
    (s.writeByte x v).devFrame = s.devFrame := rfl
@[simp] theorem State.writeByte_mem (s : State) (x : Word) (v : Byte) :
    (s.writeByte x v).mem = if s.isRom x then s.mem else s.mem.write x.toNat v := rfl
@[simp] theorem State.writeByte_ports (s : State) (x : Word) (v : Byte) : (s.writeByte x v).ports = s.ports := rfl
@[simp] theorem State.writeByte_cfg (s : State) (x : Word) (v : Byte) : (s.writeByte x v).cfg = s.cfg := rfl

@[simp] theorem State.portInCycle_a (s : State) (p : Word) : (s.portInCycle p).a = s.a := rfl
@[simp] theorem State.portInCycle_f (s : State) (p : Word) : (s.portInCycle p).f = s.f := rfl
@[simp] theorem State.portInCycle_b (s : State) (p : Word) : (s.portInCycle p).b = s.b := rfl
@[simp] theorem State.portInCycle_c (s : State) (p : Word) : (s.portInCycle p).c = s.c := rfl
@[simp] theorem State.portInCycle_d (s : State) (p : Word) : (s.portInCycle p).d = s.d := rfl
@[simp] theorem State.portInCycle_e (s : State) (p : Word) : (s.portInCycle p).e = s.e := rfl
@[simp] theorem State.portInCycle_h (s : State) (p : Word) : (s.portInCycle p).h = s.h := rfl
@[simp] theorem State.portInCycle_l (s : State) (p : Word) : (s.portInCycle p).l = s.l := rfl
@[simp] theorem State.portInCycle_afAlt (s : State) (p : Word) : (s.portInCycle p).afAlt = s.afAlt := rfl
@[simp] theorem State.portInCycle_bcAlt (s : State) (p : Word) : (s.portInCycle p).bcAlt = s.bcAlt := rfl
@[simp] theorem State.portInCycle_deAlt (s : State) (p : Word) : (s.portInCycle p).deAlt = s.deAlt := rfl
@[simp] theorem State.portInCycle_hlAlt (s : State) (p : Word) : (s.portInCycle p).hlAlt = s.hlAlt := rfl
@[simp] theorem State.portInCycle_ix (s : State) (p : Word) : (s.portInCycle p).ix = s.ix := rfl
@[simp] theorem State.portInCycle_iy (s : State) (p : Word) : (s.portInCycle p).iy = s.iy := rfl
@[simp] theorem State.portInCycle_sp (s : State) (p : Word) : (s.portInCycle p).sp = s.sp := rfl
@[simp] theorem State.portInCycle_pc (s : State) (p : Word) : (s.portInCycle p).pc = s.pc := rfl
@[simp] theorem State.portInCycle_i (s : State) (p : Word) : (s.portInCycle p).i = s.i := rfl
@[simp] theorem State.portInCycle_r (s : State) (p : Word) : (s.portInCycle p).r = s.r := rfl
@[simp] theorem State.portInCycle_mw (s : State) (p : Word) : (s.portInCycle p).mw = s.mw := rfl
@[simp] theorem State.portInCycle_iff1 (s : State) (p : Word) : (s.portInCycle p).iff1 = s.iff1 := rfl
@[simp] theorem State.portInCycle_iff2 (s : State) (p : Word) : (s.portInCycle p).iff2 = s.iff2 := rfl
@[simp] theorem State.portInCycle_im (s : State) (p : Word) : (s.portInCycle p).im = s.im := rfl
@[simp] theorem State.portInCycle_intBlocked (s : State) (p : Word) : (s.portInCycle p).intBlocked = s.intBlocked := rfl
@[simp] theorem State.portInCycle_reqReset (s : State) (p : Word) : (s.portInCycle p).reqReset = s.reqReset := rfl
@[simp] theorem State.portInCycle_reqInt (s : State) (p : Word) : (s.portInCycle p).reqInt = s.reqInt := rfl
@[simp] theorem State.portInCycle_reqNmi (s : State) (p : Word) : (s.portInCycle p).reqNmi = s.reqNmi := rfl
@[simp] theorem State.portInCycle_halted (s : State) (p : Word) : (s.portInCycle p).halted = s.halted := rfl
@[simp] theorem State.portInCycle_prefixMode (s : State) (p : Word) : (s.portInCycle p).prefixMode = s.prefixMode := rfl
@[simp] theorem State.portInCycle_indexMode (s : State) (p : Word) : (s.portInCycle p).indexMode = s.indexMode := rfl
@[simp] theorem State.portInCycle_heldDisp (s : State) (p : Word) : (s.portInCycle p).heldDisp = s.heldDisp := rfl
@[simp] theorem State.portInCycle_tacts (s : State) (p : Word) : (s.portInCycle p).tacts = s.portTact p + 4 := rfl
@[simp] theorem State.portInCycle_devRaised (s : State) (p : Word) : (s.portInCycle p).devRaised = s.devRaised := rfl
@[simp] theorem State.portInCycle_devRevoked (s : State) (p : Word) : (s.portInCycle p).devRevoked = s.devRevoked := rfl
@[simp] theorem State.portInCycle_devFrame (s : State) (p : Word) : (s.portInCycle p).devFrame = s.devFrame := rfl
@[simp] theorem State.portInCycle_mem (s : State) (p : Word) : (s.portInCycle p).mem = s.mem := rfl
@[simp] theorem State.portInCycle_ports (s : State) (p : Word) :
    (s.portInCycle p).ports = s.ports ++ [.input p (s.portIn p) (s.portTact p)] := rfl
@[simp] theorem State.portInCycle_cfg (s : State) (p : Word) : (s.portInCycle p).cfg = s.cfg := rfl

@[simp] theorem State.portOut_a (s : State) (p : Word) (v : Byte) : (s.portOut p v).a = s.a := rfl
@[simp] theorem State.portOut_f (s : State) (p : Word) (v : Byte) : (s.portOut p v).f = s.f := rfl
@[simp] theorem State.portOut_b (s : State) (p : Word) (v : Byte) : (s.portOut p v).b = s.b := rfl
@[simp] theorem State.portOut_c (s : State) (p : Word) (v : Byte) : (s.portOut p v).c = s.c := rfl
@[simp] theorem State.portOut_d (s : State) (p : Word) (v : Byte) : (s.portOut p v).d = s.d := rfl
@[simp] theorem State.portOut_e (s : State) (p : Word) (v : Byte) : (s.portOut p v).e = s.e := rfl
@[simp] theorem State.portOut_h (s : State) (p : Word) (v : Byte) : (s.portOut p v).h = s.h := rfl
@[simp] theorem State.portOut_l (s : State) (p : Word) (v : Byte) : (s.portOut p v).l = s.l := rfl
@[simp] theorem State.portOut_afAlt (s : State) (p : Word) (v : Byte) : (s.portOut p v).afAlt = s.afAlt := rfl
@[simp] theorem State.portOut_bcAlt (s : State) (p : Word) (v : Byte) : (s.portOut p v).bcAlt = s.bcAlt := rfl
@[simp] theorem State.portOut_deAlt (s : State) (p : Word) (v : Byte) : (s.portOut p v).deAlt = s.deAlt := rfl
@[simp] theorem State.portOut_hlAlt (s : State) (p : Word) (v : Byte) : (s.portOut p v).hlAlt = s.hlAlt := rfl
@[simp] theorem State.portOut_ix (s : State) (p : Word) (v : Byte) : (s.portOut p v).ix = s.ix := rfl
@[simp] theorem State.portOut_iy (s : State) (p : Word) (v : Byte) : (s.portOut p v).iy = s.iy := rfl
@[simp] theorem State.portOut_sp (s : State) (p : Word) (v : Byte) : (s.portOut p v).sp = s.sp := rfl
@[simp] theorem State.portOut_pc (s : State) (p : Word) (v : Byte) : (s.portOut p v).pc = s.pc := rfl
@[simp] theorem State.portOut_i (s : State) (p : Word) (v : Byte) : (s.portOut p v).i = s.i := rfl
@[simp] theorem State.portOut_r (s : State) (p : Word) (v : Byte) : (s.portOut p v).r = s.r := rfl
@[simp] theorem State.portOut_mw (s : State) (p : Word) (v : Byte) : (s.portOut p v).mw = s.mw := rfl
@[simp] theorem State.portOut_iff1 (s : State) (p : Word) (v : Byte) : (s.portOut p v).iff1 = s.iff1 := rfl
@[simp] theorem State.portOut_iff2 (s : State) (p : Word) (v : Byte) : (s.portOut p v).iff2 = s.iff2 := rfl
@[simp] theorem State.portOut_im (s : State) (p : Word) (v : Byte) : (s.portOut p v).im = s.im := rfl
@[simp] theorem State.portOut_intBlocked (s : State) (p : Word) (v : Byte) :
    (s.portOut p v).intBlocked = s.intBlocked := rfl
@[simp] theorem State.portOut_reqReset (s : State) (p : Word) (v : Byte) : (s.portOut p v).reqReset = s.reqReset := rfl
@[simp] theorem State.portOut_reqInt (s : State) (p : Word) (v : Byte) : (s.portOut p v).reqInt = s.reqInt := rfl
@[simp] theorem State.portOut_reqNmi (s : State) (p : Word) (v : Byte) : (s.portOut p v).reqNmi = s.reqNmi := rfl
@[simp] theorem State.portOut_halted (s : State) (p : Word) (v : Byte) : (s.portOut p v).halted = s.halted := rfl
@[simp] theorem State.portOut_prefixMode (s : State) (p : Word) (v : Byte) :
    (s.portOut p v).prefixMode = s.prefixMode := rfl
@[simp] theorem State.portOut_indexMode (s : State) (p : Word) (v : Byte) :
    (s.portOut p v).indexMode = s.indexMode := rfl
@[simp] theorem State.portOut_heldDisp (s : State) (p : Word) (v : Byte) : (s.portOut p v).heldDisp = s.heldDisp := rfl
@[simp] theorem State.portOut_tacts (s : State) (p : Word) (v : Byte) : (s.portOut p v).tacts = s.portTact p + 4 := rfl
@[simp] theorem State.portOut_devRaised (s : State) (p : Word) (v : Byte) :
    (s.portOut p v).devRaised = s.devRaised := rfl
@[simp] theorem State.portOut_devRevoked (s : State) (p : Word) (v : Byte) :
    (s.portOut p v).devRevoked = s.devRevoked := rfl
@[simp] theorem State.portOut_devFrame (s : State) (p : Word) (v : Byte) : (s.portOut p v).devFrame = s.devFrame := rfl
@[simp] theorem State.portOut_mem (s : State) (p : Word) (v : Byte) : (s.portOut p v).mem = s.mem := rfl
@[simp] theorem State.portOut_ports (s : State) (p : Word) (v : Byte) :
    (s.portOut p v).ports = s.ports ++ [.output p v (s.portTact p)] := rfl
@[simp] theorem State.portOut_cfg (s : State) (p : Word) (v : Byte) : (s.portOut p v).cfg = s.cfg := rfl

@[simp] theorem State.enterAt_a (s : State) (w : Word) : (s.enterAt w).a = s.a := rfl
@[simp] theorem State.enterAt_f (s : State) (w : Word) : (s.enterAt w).f = s.f := rfl
@[simp] theorem State.enterAt_b (s : State) (w : Word) : (s.enterAt w).b = s.b := rfl
@[simp] theorem State.enterAt_c (s : State) (w : Word) : (s.enterAt w).c = s.c := rfl
@[simp] theorem State.enterAt_d (s : State) (w : Word) : (s.enterAt w).d = s.d := rfl
@[simp] theorem State.enterAt_e (s : State) (w : Word) : (s.enterAt w).e = s.e := rfl
@[simp] theorem State.enterAt_h (s : State) (w : Word) : (s.enterAt w).h = s.h := rfl
@[simp] theorem State.enterAt_l (s : State) (w : Word) : (s.enterAt w).l = s.l := rfl
@[simp] theorem State.enterAt_afAlt (s : State) (w : Word) : (s.enterAt w).afAlt = s.afAlt := rfl
@[simp] theorem State.enterAt_bcAlt (s : State) (w : Word) : (s.enterAt w).bcAlt = s.bcAlt := rfl
@[simp] theorem State.enterAt_deAlt (s : State) (w : Word) : (s.enterAt w).deAlt = s.deAlt := rfl
@[simp] theorem State.enterAt_hlAlt (s : State) (w : Word) : (s.enterAt w).hlAlt = s.hlAlt := rfl
@[simp] theorem State.enterAt_ix (s : State) (w : Word) : (s.enterAt w).ix = s.ix := rfl
@[simp] theorem State.enterAt_iy (s : State) (w : Word) : (s.enterAt w).iy = s.iy := rfl
@[simp] theorem State.enterAt_sp (s : State) (w : Word) : (s.enterAt w).sp = s.sp := rfl
@[simp] theorem State.enterAt_pc (s : State) (w : Word) : (s.enterAt w).pc = w := rfl
@[simp] theorem State.enterAt_i (s : State) (w : Word) : (s.enterAt w).i = s.i := rfl
@[simp] theorem State.enterAt_r (s : State) (w : Word) : (s.enterAt w).r = s.r := rfl
@[simp] theorem State.enterAt_mw (s : State) (w : Word) : (s.enterAt w).mw = w := rfl
@[simp] theorem State.enterAt_iff1 (s : State) (w : Word) : (s.enterAt w).iff1 = s.iff1 := rfl
@[simp] theorem State.enterAt_iff2 (s : State) (w : Word) : (s.enterAt w).iff2 = s.iff2 := rfl
@[simp] theorem State.enterAt_im (s : State) (w : Word) : (s.enterAt w).im = s.im := rfl
@[simp] theorem State.enterAt_intBlocked (s : State) (w : Word) : (s.enterAt w).intBlocked = s.intBlocked := rfl
@[simp] theorem State.enterAt_reqReset (s : State) (w : Word) : (s.enterAt w).reqReset = s.reqReset := rfl
@[simp] theorem State.enterAt_reqInt (s : State) (w : Word) : (s.enterAt w).reqInt = s.reqInt := rfl
@[simp] theorem State.enterAt_reqNmi (s : State) (w : Word) : (s.enterAt w).reqNmi = s.reqNmi := rfl
@[simp] theorem State.enterAt_halted (s : State) (w : Word) : (s.enterAt w).halted = s.halted := rfl
@[simp] theorem State.enterAt_prefixMode (s : State) (w : Word) : (s.enterAt w).prefixMode = s.prefixMode := rfl
@[simp] theorem State.enterAt_indexMode (s : State) (w : Word) : (s.enterAt w).indexMode = s.indexMode := rfl
@[simp] theorem State.enterAt_heldDisp (s : State) (w : Word) : (s.enterAt w).heldDisp = s.heldDisp := rfl
@[simp] theorem State.enterAt_tacts (s : State) (w : Word) : (s.enterAt w).tacts = s.tacts := rfl
@[simp] theorem State.enterAt_devRaised (s : State) (w : Word) : (s.enterAt w).devRaised = s.devRaised := rfl
@[simp] theorem State.enterAt_devRevoked (s : State) (w : Word) : (s.enterAt w).devRevoked = s.devRevoked := rfl
@[simp] theorem State.enterAt_devFrame (s : State) (w : Word) : (s.enterAt w).devFrame = s.devFrame := rfl
@[simp] theorem State.enterAt_mem (s : State) (w : Word) : (s.enterAt w).mem = s.mem := rfl
@[simp] theorem State.enterAt_ports (s : State) (w : Word) : (s.enterAt w).ports = s.ports := rfl
@[simp] theorem State.enterAt_cfg (s : State) (w : Word) : (s.enterAt w).cfg = s.cfg := rfl

@[simp] theorem State.leaveHalt_a (s : State) : s.leaveHalt.a = s.a := rfl
@[simp] theorem State.leaveHalt_f (s : State) : s.leaveHalt.f = s.f := rfl
@[simp] theorem State.leaveHalt_b (s : State) : s.leaveHalt.b = s.b := rfl
@[simp] theorem State.leaveHalt_c (s : State) : s.leaveHalt.c = s.c := rfl
@[simp] theorem State.leaveHalt_d (s : State) : s.leaveHalt.d = s.d := rfl
@[simp] theorem State.leaveHalt_e (s : State) : s.leaveHalt.e = s.e := rfl
@[simp] theorem State.leaveHalt_h (s : State) : s.leaveHalt.h = s.h := rfl
@[simp] theorem State.leaveHalt_l (s : State) : s.leaveHalt.l = s.l := rfl
@[simp] theorem State.leaveHalt_afAlt (s : State) : s.leaveHalt.afAlt = s.afAlt := rfl
@[simp] theorem State.leaveHalt_bcAlt (s : State) : s.leaveHalt.bcAlt = s.bcAlt := rfl
@[simp] theorem State.leaveHalt_deAlt (s : State) : s.leaveHalt.deAlt = s.deAlt := rfl
@[simp] theorem State.leaveHalt_hlAlt (s : State) : s.leaveHalt.hlAlt = s.hlAlt := rfl
@[simp] theorem State.leaveHalt_ix (s : State) : s.leaveHalt.ix = s.ix := rfl
@[simp] theorem State.leaveHalt_iy (s : State) : s.leaveHalt.iy = s.iy := rfl
@[simp] theorem State.leaveHalt_sp (s : State) : s.leaveHalt.sp = s.sp := rfl
@[simp] theorem State.leaveHalt_pc (s : State) :
    s.leaveHalt.pc = if s.halted && s.cfg.haltPc == .self then s.pc + 1 else s.pc := rfl
@[simp] theorem State.leaveHalt_i (s : State) : s.leaveHalt.i = s.i := rfl
@[simp] theorem State.leaveHalt_r (s : State) : s.leaveHalt.r = s.r := rfl
@[simp] theorem State.leaveHalt_mw (s : State) : s.leaveHalt.mw = s.mw := rfl
@[simp] theorem State.leaveHalt_iff1 (s : State) : s.leaveHalt.iff1 = s.iff1 := rfl
@[simp] theorem State.leaveHalt_iff2 (s : State) : s.leaveHalt.iff2 = s.iff2 := rfl
@[simp] theorem State.leaveHalt_im (s : State) : s.leaveHalt.im = s.im := rfl
@[simp] theorem State.leaveHalt_intBlocked (s : State) : s.leaveHalt.intBlocked = s.intBlocked := rfl
@[simp] theorem State.leaveHalt_reqReset (s : State) : s.leaveHalt.reqReset = s.reqReset := rfl
@[simp] theorem State.leaveHalt_reqInt (s : State) : s.leaveHalt.reqInt = s.reqInt := rfl
@[simp] theorem State.leaveHalt_reqNmi (s : State) : s.leaveHalt.reqNmi = s.reqNmi := rfl
@[simp] theorem State.leaveHalt_halted (s : State) : s.leaveHalt.halted = false := rfl
@[simp] theorem State.leaveHalt_prefixMode (s : State) : s.leaveHalt.prefixMode = s.prefixMode := rfl
@[simp] theorem State.leaveHalt_indexMode (s : State) : s.leaveHalt.indexMode = s.indexMode := rfl
@[simp] theorem State.leaveHalt_heldDisp (s : State) : s.leaveHalt.heldDisp = s.heldDisp := rfl
@[simp] theorem State.leaveHalt_tacts (s : State) : s.leaveHalt.tacts = s.tacts := rfl
@[simp] theorem State.leaveHalt_devRaised (s : State) : s.leaveHalt.devRaised = s.devRaised := rfl
@[simp] theorem State.leaveHalt_devRevoked (s : State) : s.leaveHalt.devRevoked = s.devRevoked := rfl
@[simp] theorem State.leaveHalt_devFrame (s : State) : s.leaveHalt.devFrame = s.devFrame := rfl
@[simp] theorem State.leaveHalt_mem (s : State) : s.leaveHalt.mem = s.mem := rfl
@[simp] theorem State.leaveHalt_ports (s : State) : s.leaveHalt.ports = s.ports := rfl
@[simp] theorem State.leaveHalt_cfg (s : State) : s.leaveHalt.cfg = s.cfg := rfl

@[simp] theorem State.setR8_f (s : State) (rr : Reg8) (v : Byte) : (s.setR8 rr v).f = s.f := by cases rr <;> rfl
@[simp] theorem State.setR8_afAlt (s : State) (rr : Reg8) (v : Byte) :
    (s.setR8 rr v).afAlt = s.afAlt := by cases rr <;> rfl
@[simp] theorem State.setR8_bcAlt (s : State) (rr : Reg8) (v : Byte) :
    (s.setR8 rr v).bcAlt = s.bcAlt := by cases rr <;> rfl
@[simp] theorem State.setR8_deAlt (s : State) (rr : Reg8) (v : Byte) :
    (s.setR8 rr v).deAlt = s.deAlt := by cases rr <;> rfl
@[simp] theorem State.setR8_hlAlt (s : State) (rr : Reg8) (v : Byte) :
    (s.setR8 rr v).hlAlt = s.hlAlt := by cases rr <;> rfl
@[simp] theorem State.setR8_ix (s : State) (rr : Reg8) (v : Byte) : (s.setR8 rr v).ix = s.ix := by cases rr <;> rfl
@[simp] theorem State.setR8_iy (s : State) (rr : Reg8) (v : Byte) : (s.setR8 rr v).iy = s.iy := by cases rr <;> rfl
@[simp] theorem State.setR8_sp (s : State) (rr : Reg8) (v : Byte) : (s.setR8 rr v).sp = s.sp := by cases rr <;> rfl
@[simp] theorem State.setR8_pc (s : State) (rr : Reg8) (v : Byte) : (s.setR8 rr v).pc = s.pc := by cases rr <;> rfl
@[simp] theorem State.setR8_i (s : State) (rr : Reg8) (v : Byte) : (s.setR8 rr v).i = s.i := by cases rr <;> rfl
@[simp] theorem State.setR8_r (s : State) (rr : Reg8) (v : Byte) : (s.setR8 rr v).r = s.r := by cases rr <;> rfl
@[simp] theorem State.setR8_mw (s : State) (rr : Reg8) (v : Byte) : (s.setR8 rr v).mw = s.mw := by cases rr <;> rfl
@[simp] theorem State.setR8_iff1 (s : State) (rr : Reg8) (v : Byte) :
    (s.setR8 rr v).iff1 = s.iff1 := by cases rr <;> rfl
@[simp] theorem State.setR8_iff2 (s : State) (rr : Reg8) (v : Byte) :
    (s.setR8 rr v).iff2 = s.iff2 := by cases rr <;> rfl
@[simp] theorem State.setR8_im (s : State) (rr : Reg8) (v : Byte) : (s.setR8 rr v).im = s.im := by cases rr <;> rfl
@[simp] theorem State.setR8_intBlocked (s : State) (rr : Reg8) (v : Byte) :
    (s.setR8 rr v).intBlocked = s.intBlocked := by cases rr <;> rfl
@[simp] theorem State.setR8_reqReset (s : State) (rr : Reg8) (v : Byte) :
    (s.setR8 rr v).reqReset = s.reqReset := by cases rr <;> rfl
@[simp] theorem State.setR8_reqInt (s : State) (rr : Reg8) (v : Byte) :
    (s.setR8 rr v).reqInt = s.reqInt := by cases rr <;> rfl
@[simp] theorem State.setR8_reqNmi (s : State) (rr : Reg8) (v : Byte) :
    (s.setR8 rr v).reqNmi = s.reqNmi := by cases rr <;> rfl
@[simp] theorem State.setR8_halted (s : State) (rr : Reg8) (v : Byte) :
    (s.setR8 rr v).halted = s.halted := by cases rr <;> rfl
@[simp] theorem State.setR8_prefixMode (s : State) (rr : Reg8) (v : Byte) :
    (s.setR8 rr v).prefixMode = s.prefixMode := by cases rr <;> rfl
@[simp] theorem State.setR8_indexMode (s : State) (rr : Reg8) (v : Byte) :
    (s.setR8 rr v).indexMode = s.indexMode := by cases rr <;> rfl
@[simp] theorem State.setR8_heldDisp (s : State) (rr : Reg8) (v : Byte) :
    (s.setR8 rr v).heldDisp = s.heldDisp := by cases rr <;> rfl
@[simp] theorem State.setR8_tacts (s : State) (rr : Reg8) (v : Byte) :
    (s.setR8 rr v).tacts = s.tacts := by cases rr <;> rfl
@[simp] theorem State.setR8_devRaised (s : State) (rr : Reg8) (v : Byte) :
    (s.setR8 rr v).devRaised = s.devRaised := by cases rr <;> rfl
@[simp] theorem State.setR8_devRevoked (s : State) (rr : Reg8) (v : Byte) :
    (s.setR8 rr v).devRevoked = s.devRevoked := by cases rr <;> rfl
@[simp] theorem State.setR8_devFrame (s : State) (rr : Reg8) (v : Byte) :
    (s.setR8 rr v).devFrame = s.devFrame := by cases rr <;> rfl
@[simp] theorem State.setR8_mem (s : State) (rr : Reg8) (v : Byte) : (s.setR8 rr v).mem = s.mem := by cases rr <;> rfl
@[simp] theorem State.setR8_ports (s : State) (rr : Reg8) (v : Byte) :
    (s.setR8 rr v).ports = s.ports := by cases rr <;> rfl
@[simp] theorem State.setR8_cfg (s : State) (rr : Reg8) (v : Byte) : (s.setR8 rr v).cfg = s.cfg := by cases rr <;> rfl

@[simp] theorem State.setPair_a (s : State) (dd : Pair) (w : Word) : (s.setPair dd w).a = s.a := by cases dd <;> rfl
@[simp] theorem State.setPair_f (s : State) (dd : Pair) (w : Word) : (s.setPair dd w).f = s.f := by cases dd <;> rfl
@[simp] theorem State.setPair_afAlt (s : State) (dd : Pair) (w : Word) :
    (s.setPair dd w).afAlt = s.afAlt := by cases dd <;> rfl
@[simp] theorem State.setPair_bcAlt (s : State) (dd : Pair) (w : Word) :
    (s.setPair dd w).bcAlt = s.bcAlt := by cases dd <;> rfl
@[simp] theorem State.setPair_deAlt (s : State) (dd : Pair) (w : Word) :
    (s.setPair dd w).deAlt = s.deAlt := by cases dd <;> rfl
@[simp] theorem State.setPair_hlAlt (s : State) (dd : Pair) (w : Word) :
    (s.setPair dd w).hlAlt = s.hlAlt := by cases dd <;> rfl
@[simp] theorem State.setPair_ix (s : State) (dd : Pair) (w : Word) : (s.setPair dd w).ix = s.ix := by cases dd <;> rfl
@[simp] theorem State.setPair_iy (s : State) (dd : Pair) (w : Word) : (s.setPair dd w).iy = s.iy := by cases dd <;> rfl
@[simp] theorem State.setPair_pc (s : State) (dd : Pair) (w : Word) : (s.setPair dd w).pc = s.pc := by cases dd <;> rfl
@[simp] theorem State.setPair_i (s : State) (dd : Pair) (w : Word) : (s.setPair dd w).i = s.i := by cases dd <;> rfl
@[simp] theorem State.setPair_r (s : State) (dd : Pair) (w : Word) : (s.setPair dd w).r = s.r := by cases dd <;> rfl
@[simp] theorem State.setPair_mw (s : State) (dd : Pair) (w : Word) : (s.setPair dd w).mw = s.mw := by cases dd <;> rfl
@[simp] theorem State.setPair_iff1 (s : State) (dd : Pair) (w : Word) :
    (s.setPair dd w).iff1 = s.iff1 := by cases dd <;> rfl
@[simp] theorem State.setPair_iff2 (s : State) (dd : Pair) (w : Word) :
    (s.setPair dd w).iff2 = s.iff2 := by cases dd <;> rfl
@[simp] theorem State.setPair_im (s : State) (dd : Pair) (w : Word) : (s.setPair dd w).im = s.im := by cases dd <;> rfl
@[simp] theorem State.setPair_intBlocked (s : State) (dd : Pair) (w : Word) :
    (s.setPair dd w).intBlocked = s.intBlocked := by cases dd <;> rfl
@[simp] theorem State.setPair_reqReset (s : State) (dd : Pair) (w : Word) :
    (s.setPair dd w).reqReset = s.reqReset := by cases dd <;> rfl
@[simp] theorem State.setPair_reqInt (s : State) (dd : Pair) (w : Word) :
    (s.setPair dd w).reqInt = s.reqInt := by cases dd <;> rfl
@[simp] theorem State.setPair_reqNmi (s : State) (dd : Pair) (w : Word) :
    (s.setPair dd w).reqNmi = s.reqNmi := by cases dd <;> rfl
@[simp] theorem State.setPair_halted (s : State) (dd : Pair) (w : Word) :
    (s.setPair dd w).halted = s.halted := by cases dd <;> rfl
@[simp] theorem State.setPair_prefixMode (s : State) (dd : Pair) (w : Word) :
    (s.setPair dd w).prefixMode = s.prefixMode := by cases dd <;> rfl
@[simp] theorem State.setPair_indexMode (s : State) (dd : Pair) (w : Word) :
    (s.setPair dd w).indexMode = s.indexMode := by cases dd <;> rfl
@[simp] theorem State.setPair_heldDisp (s : State) (dd : Pair) (w : Word) :
    (s.setPair dd w).heldDisp = s.heldDisp := by cases dd <;> rfl
@[simp] theorem State.setPair_tacts (s : State) (dd : Pair) (w : Word) :
    (s.setPair dd w).tacts = s.tacts := by cases dd <;> rfl
@[simp] theorem State.setPair_devRaised (s : State) (dd : Pair) (w : Word) :
    (s.setPair dd w).devRaised = s.devRaised := by cases dd <;> rfl
@[simp] theorem State.setPair_devRevoked (s : State) (dd : Pair) (w : Word) :
    (s.setPair dd w).devRevoked = s.devRevoked := by cases dd <;> rfl
@[simp] theorem State.setPair_devFrame (s : State) (dd : Pair) (w : Word) :
    (s.setPair dd w).devFrame = s.devFrame := by cases dd <;> rfl
@[simp] theorem State.setPair_mem (s : State) (dd : Pair) (w : Word) :
    (s.setPair dd w).mem = s.mem := by cases dd <;> rfl
@[simp] theorem State.setPair_ports (s : State) (dd : Pair) (w : Word) :
    (s.setPair dd w).ports = s.ports := by cases dd <;> rfl
@[simp] theorem State.setPair_cfg (s : State) (dd : Pair) (w : Word) :
    (s.setPair dd w).cfg = s.cfg := by cases dd <;> rfl

@[simp] theorem State.setPairQ_afAlt (s : State) (qq : PairQ) (w : Word) :
    (s.setPairQ qq w).afAlt = s.afAlt := by cases qq <;> rfl
@[simp] theorem State.setPairQ_bcAlt (s : State) (qq : PairQ) (w : Word) :
    (s.setPairQ qq w).bcAlt = s.bcAlt := by cases qq <;> rfl
@[simp] theorem State.setPairQ_deAlt (s : State) (qq : PairQ) (w : Word) :
    (s.setPairQ qq w).deAlt = s.deAlt := by cases qq <;> rfl
@[simp] theorem State.setPairQ_hlAlt (s : State) (qq : PairQ) (w : Word) :
    (s.setPairQ qq w).hlAlt = s.hlAlt := by cases qq <;> rfl
@[simp] theorem State.setPairQ_ix (s : State) (qq : PairQ) (w : Word) :
    (s.setPairQ qq w).ix = s.ix := by cases qq <;> rfl
@[simp] theorem State.setPairQ_iy (s : State) (qq : PairQ) (w : Word) :
    (s.setPairQ qq w).iy = s.iy := by cases qq <;> rfl
@[simp] theorem State.setPairQ_sp (s : State) (qq : PairQ) (w : Word) :
    (s.setPairQ qq w).sp = s.sp := by cases qq <;> rfl
@[simp] theorem State.setPairQ_pc (s : State) (qq : PairQ) (w : Word) :
    (s.setPairQ qq w).pc = s.pc := by cases qq <;> rfl
@[simp] theorem State.setPairQ_i (s : State) (qq : PairQ) (w : Word) : (s.setPairQ qq w).i = s.i := by cases qq <;> rfl
@[simp] theorem State.setPairQ_r (s : State) (qq : PairQ) (w : Word) : (s.setPairQ qq w).r = s.r := by cases qq <;> rfl
@[simp] theorem State.setPairQ_mw (s : State) (qq : PairQ) (w : Word) :
    (s.setPairQ qq w).mw = s.mw := by cases qq <;> rfl
@[simp] theorem State.setPairQ_iff1 (s : State) (qq : PairQ) (w : Word) :
    (s.setPairQ qq w).iff1 = s.iff1 := by cases qq <;> rfl
@[simp] theorem State.setPairQ_iff2 (s : State) (qq : PairQ) (w : Word) :
    (s.setPairQ qq w).iff2 = s.iff2 := by cases qq <;> rfl
@[simp] theorem State.setPairQ_im (s : State) (qq : PairQ) (w : Word) :
    (s.setPairQ qq w).im = s.im := by cases qq <;> rfl
@[simp] theorem State.setPairQ_intBlocked (s : State) (qq : PairQ) (w : Word) :
    (s.setPairQ qq w).intBlocked = s.intBlocked := by cases qq <;> rfl
@[simp] theorem State.setPairQ_reqReset (s : State) (qq : PairQ) (w : Word) :
    (s.setPairQ qq w).reqReset = s.reqReset := by cases qq <;> rfl
@[simp] theorem State.setPairQ_reqInt (s : State) (qq : PairQ) (w : Word) :
    (s.setPairQ qq w).reqInt = s.reqInt := by cases qq <;> rfl
@[simp] theorem State.setPairQ_reqNmi (s : State) (qq : PairQ) (w : Word) :
    (s.setPairQ qq w).reqNmi = s.reqNmi := by cases qq <;> rfl
@[simp] theorem State.setPairQ_halted (s : State) (qq : PairQ) (w : Word) :
    (s.setPairQ qq w).halted = s.halted := by cases qq <;> rfl
@[simp] theorem State.setPairQ_prefixMode (s : State) (qq : PairQ) (w : Word) :
    (s.setPairQ qq w).prefixMode = s.prefixMode := by cases qq <;> rfl
@[simp] theorem State.setPairQ_indexMode (s : State) (qq : PairQ) (w : Word) :
    (s.setPairQ qq w).indexMode = s.indexMode := by cases qq <;> rfl
@[simp] theorem State.setPairQ_heldDisp (s : State) (qq : PairQ) (w : Word) :
    (s.setPairQ qq w).heldDisp = s.heldDisp := by cases qq <;> rfl
@[simp] theorem State.setPairQ_tacts (s : State) (qq : PairQ) (w : Word) :
    (s.setPairQ qq w).tacts = s.tacts := by cases qq <;> rfl
@[simp] theorem State.setPairQ_devRaised (s : State) (qq : PairQ) (w : Word) :
    (s.setPairQ qq w).devRaised = s.devRaised := by cases qq <;> rfl
@[simp] theorem State.setPairQ_devRevoked (s : State) (qq : PairQ) (w : Word) :
    (s.setPairQ qq w).devRevoked = s.devRevoked := by cases qq <;> rfl
@[simp] theorem State.setPairQ_devFrame (s : State) (qq : PairQ) (w : Word) :
    (s.setPairQ qq w).devFrame = s.devFrame := by cases qq <;> rfl
@[simp] theorem State.setPairQ_mem (s : State) (qq : PairQ) (w : Word) :
    (s.setPairQ qq w).mem = s.mem := by cases qq <;> rfl
@[simp] theorem State.setPairQ_ports (s : State) (qq : PairQ) (w : Word) :
    (s.setPairQ qq w).ports = s.ports := by cases qq <;> rfl
@[simp] theorem State.setPairQ_cfg (s : State) (qq : PairQ) (w : Word) :
    (s.setPairQ qq w).cfg = s.cfg := by cases qq <;> rfl

@[simp] theorem State.setXy_a (s : State) (k : Idx) (w : Word) : (s.setXy k w).a = s.a := by cases k <;> rfl
@[simp] theorem State.setXy_f (s : State) (k : Idx) (w : Word) : (s.setXy k w).f = s.f := by cases k <;> rfl
@[simp] theorem State.setXy_b (s : State) (k : Idx) (w : Word) : (s.setXy k w).b = s.b := by cases k <;> rfl
@[simp] theorem State.setXy_c (s : State) (k : Idx) (w : Word) : (s.setXy k w).c = s.c := by cases k <;> rfl
@[simp] theorem State.setXy_d (s : State) (k : Idx) (w : Word) : (s.setXy k w).d = s.d := by cases k <;> rfl
@[simp] theorem State.setXy_e (s : State) (k : Idx) (w : Word) : (s.setXy k w).e = s.e := by cases k <;> rfl
@[simp] theorem State.setXy_h (s : State) (k : Idx) (w : Word) : (s.setXy k w).h = s.h := by cases k <;> rfl
@[simp] theorem State.setXy_l (s : State) (k : Idx) (w : Word) : (s.setXy k w).l = s.l := by cases k <;> rfl
@[simp] theorem State.setXy_afAlt (s : State) (k : Idx) (w : Word) : (s.setXy k w).afAlt = s.afAlt := by cases k <;> rfl
@[simp] theorem State.setXy_bcAlt (s : State) (k : Idx) (w : Word) : (s.setXy k w).bcAlt = s.bcAlt := by cases k <;> rfl
@[simp] theorem State.setXy_deAlt (s : State) (k : Idx) (w : Word) : (s.setXy k w).deAlt = s.deAlt := by cases k <;> rfl
@[simp] theorem State.setXy_hlAlt (s : State) (k : Idx) (w : Word) : (s.setXy k w).hlAlt = s.hlAlt := by cases k <;> rfl
@[simp] theorem State.setXy_sp (s : State) (k : Idx) (w : Word) : (s.setXy k w).sp = s.sp := by cases k <;> rfl
@[simp] theorem State.setXy_pc (s : State) (k : Idx) (w : Word) : (s.setXy k w).pc = s.pc := by cases k <;> rfl
@[simp] theorem State.setXy_i (s : State) (k : Idx) (w : Word) : (s.setXy k w).i = s.i := by cases k <;> rfl
@[simp] theorem State.setXy_r (s : State) (k : Idx) (w : Word) : (s.setXy k w).r = s.r := by cases k <;> rfl
@[simp] theorem State.setXy_mw (s : State) (k : Idx) (w : Word) : (s.setXy k w).mw = s.mw := by cases k <;> rfl
@[simp] theorem State.setXy_iff1 (s : State) (k : Idx) (w : Word) : (s.setXy k w).iff1 = s.iff1 := by cases k <;> rfl
@[simp] theorem State.setXy_iff2 (s : State) (k : Idx) (w : Word) : (s.setXy k w).iff2 = s.iff2 := by cases k <;> rfl
@[simp] theorem State.setXy_im (s : State) (k : Idx) (w : Word) : (s.setXy k w).im = s.im := by cases k <;> rfl
@[simp] theorem State.setXy_intBlocked (s : State) (k : Idx) (w : Word) :
    (s.setXy k w).intBlocked = s.intBlocked := by cases k <;> rfl
@[simp] theorem State.setXy_reqReset (s : State) (k : Idx) (w : Word) :
    (s.setXy k w).reqReset = s.reqReset := by cases k <;> rfl
@[simp] theorem State.setXy_reqInt (s : State) (k : Idx) (w : Word) :
    (s.setXy k w).reqInt = s.reqInt := by cases k <;> rfl
@[simp] theorem State.setXy_reqNmi (s : State) (k : Idx) (w : Word) :
    (s.setXy k w).reqNmi = s.reqNmi := by cases k <;> rfl
@[simp] theorem State.setXy_halted (s : State) (k : Idx) (w : Word) :
    (s.setXy k w).halted = s.halted := by cases k <;> rfl
@[simp] theorem State.setXy_prefixMode (s : State) (k : Idx) (w : Word) :
    (s.setXy k w).prefixMode = s.prefixMode := by cases k <;> rfl
@[simp] theorem State.setXy_indexMode (s : State) (k : Idx) (w : Word) :
    (s.setXy k w).indexMode = s.indexMode := by cases k <;> rfl
@[simp] theorem State.setXy_heldDisp (s : State) (k : Idx) (w : Word) :
    (s.setXy k w).heldDisp = s.heldDisp := by cases k <;> rfl
@[simp] theorem State.setXy_tacts (s : State) (k : Idx) (w : Word) : (s.setXy k w).tacts = s.tacts := by cases k <;> rfl
@[simp] theorem State.setXy_devRaised (s : State) (k : Idx) (w : Word) :
    (s.setXy k w).devRaised = s.devRaised := by cases k <;> rfl
@[simp] theorem State.setXy_devRevoked (s : State) (k : Idx) (w : Word) :
    (s.setXy k w).devRevoked = s.devRevoked := by cases k <;> rfl
@[simp] theorem State.setXy_devFrame (s : State) (k : Idx) (w : Word) :
    (s.setXy k w).devFrame = s.devFrame := by cases k <;> rfl
@[simp] theorem State.setXy_mem (s : State) (k : Idx) (w : Word) : (s.setXy k w).mem = s.mem := by cases k <;> rfl
@[simp] theorem State.setXy_ports (s : State) (k : Idx) (w : Word) : (s.setXy k w).ports = s.ports := by cases k <;> rfl
@[simp] theorem State.setXy_cfg (s : State) (k : Idx) (w : Word) : (s.setXy k w).cfg = s.cfg := by cases k <;> rfl

@[simp] theorem State.setRx_f (s : State) (k : Idx) (rx : RegX) (v : Byte) :
    (s.setRx k rx v).f = s.f := by cases rx <;> cases k <;> rfl
@[simp] theorem State.setRx_h (s : State) (k : Idx) (rx : RegX) (v : Byte) :
    (s.setRx k rx v).h = s.h := by cases rx <;> cases k <;> rfl
@[simp] theorem State.setRx_l (s : State) (k : Idx) (rx : RegX) (v : Byte) :
    (s.setRx k rx v).l = s.l := by cases rx <;> cases k <;> rfl
@[simp] theorem State.setRx_afAlt (s : State) (k : Idx) (rx : RegX) (v : Byte) :
    (s.setRx k rx v).afAlt = s.afAlt := by cases rx <;> cases k <;> rfl
@[simp] theorem State.setRx_bcAlt (s : State) (k : Idx) (rx : RegX) (v : Byte) :
    (s.setRx k rx v).bcAlt = s.bcAlt := by cases rx <;> cases k <;> rfl
@[simp] theorem State.setRx_deAlt (s : State) (k : Idx) (rx : RegX) (v : Byte) :
    (s.setRx k rx v).deAlt = s.deAlt := by cases rx <;> cases k <;> rfl
@[simp] theorem State.setRx_hlAlt (s : State) (k : Idx) (rx : RegX) (v : Byte) :
    (s.setRx k rx v).hlAlt = s.hlAlt := by cases rx <;> cases k <;> rfl
@[simp] theorem State.setRx_sp (s : State) (k : Idx) (rx : RegX) (v : Byte) :
    (s.setRx k rx v).sp = s.sp := by cases rx <;> cases k <;> rfl
@[simp] theorem State.setRx_pc (s : State) (k : Idx) (rx : RegX) (v : Byte) :
    (s.setRx k rx v).pc = s.pc := by cases rx <;> cases k <;> rfl
@[simp] theorem State.setRx_i (s : State) (k : Idx) (rx : RegX) (v : Byte) :
    (s.setRx k rx v).i = s.i := by cases rx <;> cases k <;> rfl
@[simp] theorem State.setRx_r (s : State) (k : Idx) (rx : RegX) (v : Byte) :
    (s.setRx k rx v).r = s.r := by cases rx <;> cases k <;> rfl
@[simp] theorem State.setRx_mw (s : State) (k : Idx) (rx : RegX) (v : Byte) :
    (s.setRx k rx v).mw = s.mw := by cases rx <;> cases k <;> rfl
@[simp] theorem State.setRx_iff1 (s : State) (k : Idx) (rx : RegX) (v : Byte) :
    (s.setRx k rx v).iff1 = s.iff1 := by cases rx <;> cases k <;> rfl
@[simp] theorem State.setRx_iff2 (s : State) (k : Idx) (rx : RegX) (v : Byte) :
    (s.setRx k rx v).iff2 = s.iff2 := by cases rx <;> cases k <;> rfl
@[simp] theorem State.setRx_im (s : State) (k : Idx) (rx : RegX) (v : Byte) :
    (s.setRx k rx v).im = s.im := by cases rx <;> cases k <;> rfl
@[simp] theorem State.setRx_intBlocked (s : State) (k : Idx) (rx : RegX) (v : Byte) :
    (s.setRx k rx v).intBlocked = s.intBlocked := by cases rx <;> cases k <;> rfl
@[simp] theorem State.setRx_reqReset (s : State) (k : Idx) (rx : RegX) (v : Byte) :
    (s.setRx k rx v).reqReset = s.reqReset := by cases rx <;> cases k <;> rfl
@[simp] theorem State.setRx_reqInt (s : State) (k : Idx) (rx : RegX) (v : Byte) :
    (s.setRx k rx v).reqInt = s.reqInt := by cases rx <;> cases k <;> rfl
@[simp] theorem State.setRx_reqNmi (s : State) (k : Idx) (rx : RegX) (v : Byte) :
    (s.setRx k rx v).reqNmi = s.reqNmi := by cases rx <;> cases k <;> rfl
@[simp] theorem State.setRx_halted (s : State) (k : Idx) (rx : RegX) (v : Byte) :
    (s.setRx k rx v).halted = s.halted := by cases rx <;> cases k <;> rfl
@[simp] theorem State.setRx_prefixMode (s : State) (k : Idx) (rx : RegX) (v : Byte) :
    (s.setRx k rx v).prefixMode = s.prefixMode := by cases rx <;> cases k <;> rfl
@[simp] theorem State.setRx_indexMode (s : State) (k : Idx) (rx : RegX) (v : Byte) :
    (s.setRx k rx v).indexMode = s.indexMode := by cases rx <;> cases k <;> rfl
@[simp] theorem State.setRx_heldDisp (s : State) (k : Idx) (rx : RegX) (v : Byte) :
    (s.setRx k rx v).heldDisp = s.heldDisp := by cases rx <;> cases k <;> rfl
@[simp] theorem State.setRx_tacts (s : State) (k : Idx) (rx : RegX) (v : Byte) :
    (s.setRx k rx v).tacts = s.tacts := by cases rx <;> cases k <;> rfl
@[simp] theorem State.setRx_devRaised (s : State) (k : Idx) (rx : RegX) (v : Byte) :
    (s.setRx k rx v).devRaised = s.devRaised := by cases rx <;> cases k <;> rfl
@[simp] theorem State.setRx_devRevoked (s : State) (k : Idx) (rx : RegX) (v : Byte) :
    (s.setRx k rx v).devRevoked = s.devRevoked := by cases rx <;> cases k <;> rfl
@[simp] theorem State.setRx_devFrame (s : State) (k : Idx) (rx : RegX) (v : Byte) :
    (s.setRx k rx v).devFrame = s.devFrame := by cases rx <;> cases k <;> rfl
@[simp] theorem State.setRx_mem (s : State) (k : Idx) (rx : RegX) (v : Byte) :
    (s.setRx k rx v).mem = s.mem := by cases rx <;> cases k <;> rfl
@[simp] theorem State.setRx_ports (s : State) (k : Idx) (rx : RegX) (v : Byte) :
    (s.setRx k rx v).ports = s.ports := by cases rx <;> cases k <;> rfl
@[simp] theorem State.setRx_cfg (s : State) (k : Idx) (rx : RegX) (v : Byte) :
    (s.setRx k rx v).cfg = s.cfg := by cases rx <;> cases k <;> rfl

@[simp] theorem State.setR8_a (s : State) (rr : Reg8) (v : Byte) :
    (s.setR8 rr v).a = if rr = .a then v else s.a := by cases rr <;> rfl

@[simp] theorem State.setR8_b (s : State) (rr : Reg8) (v : Byte) :
    (s.setR8 rr v).b = if rr = .b then v else s.b := by cases rr <;> rfl

@[simp] theorem State.setR8_c (s : State) (rr : Reg8) (v : Byte) :
    (s.setR8 rr v).c = if rr = .c then v else s.c := by cases rr <;> rfl

@[simp] theorem State.setR8_d (s : State) (rr : Reg8) (v : Byte) :
    (s.setR8 rr v).d = if rr = .d then v else s.d := by cases rr <;> rfl

@[simp] theorem State.setR8_e (s : State) (rr : Reg8) (v : Byte) :
    (s.setR8 rr v).e = if rr = .e then v else s.e := by cases rr <;> rfl

@[simp] theorem State.setR8_h (s : State) (rr : Reg8) (v : Byte) :
    (s.setR8 rr v).h = if rr = .h then v else s.h := by cases rr <;> rfl

@[simp] theorem State.setR8_l (s : State) (rr : Reg8) (v : Byte) :
    (s.setR8 rr v).l = if rr = .l then v else s.l := by cases rr <;> rfl

@[simp] theorem State.setPair_b (s : State) (dd : Pair) (w : Word) :
    (s.setPair dd w).b = if dd = .bc then hi w else s.b := by cases dd <;> rfl

@[simp] theorem State.setPair_c (s : State) (dd : Pair) (w : Word) :
    (s.setPair dd w).c = if dd = .bc then lo w else s.c := by cases dd <;> rfl

@[simp] theorem State.setPair_d (s : State) (dd : Pair) (w : Word) :
    (s.setPair dd w).d = if dd = .de then hi w else s.d := by cases dd <;> rfl

@[simp] theorem State.setPair_e (s : State) (dd : Pair) (w : Word) :
    (s.setPair dd w).e = if dd = .de then lo w else s.e := by cases dd <;> rfl

@[simp] theorem State.setPair_h (s : State) (dd : Pair) (w : Word) :
    (s.setPair dd w).h = if dd = .hl then hi w else s.h := by cases dd <;> rfl

@[simp] theorem State.setPair_l (s : State) (dd : Pair) (w : Word) :
    (s.setPair dd w).l = if dd = .hl then lo w else s.l := by cases dd <;> rfl

@[simp] theorem State.setPair_sp (s : State) (dd : Pair) (w : Word) :
    (s.setPair dd w).sp = if dd = .sp then w else s.sp := by cases dd <;> rfl

@[simp] theorem State.setPairQ_a (s : State) (qq : PairQ) (w : Word) :
    (s.setPairQ qq w).a = if qq = .af then hi w else s.a := by cases qq <;> rfl

@[simp] theorem State.setPairQ_f (s : State) (qq : PairQ) (w : Word) :
    (s.setPairQ qq w).f = if qq = .af then lo w else s.f := by cases qq <;> rfl

@[simp] theorem State.setPairQ_b (s : State) (qq : PairQ) (w : Word) :
    (s.setPairQ qq w).b = if qq = .bc then hi w else s.b := by cases qq <;> rfl

@[simp] theorem State.setPairQ_c (s : State) (qq : PairQ) (w : Word) :
    (s.setPairQ qq w).c = if qq = .bc then lo w else s.c := by cases qq <;> rfl

@[simp] theorem State.setPairQ_d (s : State) (qq : PairQ) (w : Word) :
    (s.setPairQ qq w).d = if qq = .de then hi w else s.d := by cases qq <;> rfl

@[simp] theorem State.setPairQ_e (s : State) (qq : PairQ) (w : Word) :
    (s.setPairQ qq w).e = if qq = .de then lo w else s.e := by cases qq <;> rfl

@[simp] theorem State.setPairQ_h (s : State) (qq : PairQ) (w : Word) :
    (s.setPairQ qq w).h = if qq = .hl then hi w else s.h := by cases qq <;> rfl

@[simp] theorem State.setPairQ_l (s : State) (qq : PairQ) (w : Word) :
    (s.setPairQ qq w).l = if qq = .hl then lo w else s.l := by cases qq <;> rfl

@[simp] theorem State.setXy_ix (s : State) (k : Idx) (w : Word) :
    (s.setXy k w).ix = if k = .ix then w else s.ix := by cases k <;> rfl

@[simp] theorem State.setXy_iy (s : State) (k : Idx) (w : Word) :
    (s.setXy k w).iy = if k = .iy then w else s.iy := by cases k <;> rfl

@[simp] theorem State.setRx_a (s : State) (k : Idx) (rx : RegX) (v : Byte) :
    (s.setRx k rx v).a = if rx = .a then v else s.a := by cases rx <;> cases k <;> rfl

@[simp] theorem State.setRx_b (s : State) (k : Idx) (rx : RegX) (v : Byte) :
    (s.setRx k rx v).b = if rx = .b then v else s.b := by cases rx <;> cases k <;> rfl

@[simp] theorem State.setRx_c (s : State) (k : Idx) (rx : RegX) (v : Byte) :
    (s.setRx k rx v).c = if rx = .c then v else s.c := by cases rx <;> cases k <;> rfl

@[simp] theorem State.setRx_d (s : State) (k : Idx) (rx : RegX) (v : Byte) :
    (s.setRx k rx v).d = if rx = .d then v else s.d := by cases rx <;> cases k <;> rfl

@[simp] theorem State.setRx_e (s : State) (k : Idx) (rx : RegX) (v : Byte) :
    (s.setRx k rx v).e = if rx = .e then v else s.e := by cases rx <;> cases k <;> rfl

end Sys2Proof.Machine
end

