-- ==== Sys2Proof/Laws/Memory.lean ====
section
/-! SUPPORT. The laws of memory: a read after a write, and that every operation that writes memory keeps its canonical
form. -/

namespace Sys2Proof.Machine

theorem Memory.wfFrom_mono {m : Memory} : ∀ {i j : Nat}, i ≤ j → Memory.wfFrom j m = true → Memory.wfFrom i m = true := by
  cases m with
  | nil => intro i j _ _; rfl
  | cons p rest =>
    obtain ⟨k, v⟩ := p
    intro i j hij h
    simp only [Memory.wfFrom, Bool.and_eq_true, decide_eq_true_eq] at h ⊢
    exact ⟨⟨⟨by omega, h.1.1.2⟩, h.1.2⟩, h.2⟩

/-- Below the first listed address nothing is listed. -/
theorem Memory.read_below {m : Memory} : ∀ {i x : Nat}, Memory.wfFrom i m = true → x < i → m.read x = Memory.unlisted := by
  induction m with
  | nil => intro i x _ _; rfl
  | cons p rest ih =>
    obtain ⟨k, v⟩ := p
    intro i x h hx
    simp only [Memory.wfFrom, Bool.and_eq_true, decide_eq_true_eq] at h
    rw [Memory.read, if_neg (by omega)]
    exact ih h.2 (by omega)

/-- A byte written reads back. -/
theorem Memory.read_write_same {m : Memory} (v : Byte) :
    ∀ {i x : Nat}, Memory.wfFrom i m = true → (m.write x v).read x = v := by
  induction m with
  | nil =>
    intro i x _
    simp only [Memory.write]
    split
    · next h => rw [h]; rfl
    · simp [Memory.read]
  | cons p rest ih =>
    obtain ⟨k, w⟩ := p
    intro i x h
    simp only [Memory.wfFrom, Bool.and_eq_true, decide_eq_true_eq] at h
    simp only [Memory.write]
    split
    · next hlt =>
      split
      · next hv =>
        rw [Memory.read, if_neg (by omega), Memory.read_below h.2 (by omega), hv]
      · simp [Memory.read]
    · split
      · next hk =>
        split
        · next hv => rw [Memory.read_below h.2 (by omega), hv]
        · simp [Memory.read]
      · rw [Memory.read, if_neg (by omega)]
        exact ih h.2

/-- A write leaves every other address as it was. -/
theorem Memory.read_write_ne (m : Memory) (v : Byte) {x y : Nat} (hy : y ≠ x) : (m.write x v).read y = m.read y := by
  induction m with
  | nil =>
    simp only [Memory.write]
    split
    · rfl
    · simp [Memory.read, Ne.symm hy]
  | cons p rest ih =>
    obtain ⟨k, w⟩ := p
    simp only [Memory.write]
    split
    · split
      · rfl
      · rw [Memory.read, if_neg (Ne.symm hy)]
    · split
      · next hk =>
        split
        · rw [Memory.read, if_neg (by omega)]
        · rw [Memory.read, if_neg (Ne.symm hy), Memory.read, if_neg (by omega)]
      · rw [Memory.read, Memory.read]
        split
        · rfl
        · exact ih

/-- A write keeps the canonical form. -/
theorem Memory.wfFrom_write {m : Memory} (v : Byte) :
    ∀ {i x : Nat}, Memory.wfFrom i m = true → i ≤ x → x < 65536 → Memory.wfFrom i (m.write x v) = true := by
  induction m with
  | nil =>
    intro i x _ hi hx
    simp only [Memory.write]
    split
    · rfl
    · next hv => simp [Memory.wfFrom, hi, hx, hv]
  | cons p rest ih =>
    obtain ⟨k, w⟩ := p
    intro i x h hi hx
    have h0 := h
    simp only [Memory.wfFrom, Bool.and_eq_true, decide_eq_true_eq] at h
    simp only [Memory.write]
    split
    · next hlt =>
      split
      · exact h0
      · next hv =>
        simp only [Memory.wfFrom, Bool.and_eq_true, decide_eq_true_eq]
        exact ⟨⟨⟨hi, hx⟩, hv⟩, ⟨⟨by omega, h.1.1.2⟩, h.1.2⟩, h.2⟩
    · split
      · next hk =>
        split
        · exact Memory.wfFrom_mono (by omega) h.2
        · next hv =>
          simp only [Memory.wfFrom, Bool.and_eq_true, decide_eq_true_eq]
          exact ⟨⟨⟨hi, hx⟩, hv⟩, by rw [hk]; exact h.2⟩
      · simp only [Memory.wfFrom, Bool.and_eq_true, decide_eq_true_eq]
        exact ⟨⟨⟨h.1.1.1, h.1.1.2⟩, h.1.2⟩, ih h.2 (by omega) hx⟩

/-- The same at a 16-bit address. -/
theorem Memory.wf_write {m : Memory} (x : Word) (v : Byte) (h : m.wf = true) : (m.write x.toNat v).wf = true :=
  Memory.wfFrom_write v h (Nat.zero_le _) x.isLt

/-- Reset memory lists nothing. -/
theorem reset_mem_wf : State.reset.mem.wf = true := rfl

/-! ### The operations that write memory -/

/-- `MemWrite` (20_memory.md R67, R68, R73): the byte is stored unless the address is ROM; no other byte changes. -/
theorem peek_writeByte {s : State} (h : s.mem.wf = true) (x : Word) (v : Byte) (y : Word) :
    (s.writeByte x v).peek y = if y = x ∧ s.isRom x = false then v else s.peek y := by
  simp only [State.peek, State.writeByte_mem]
  by_cases hr : s.isRom x = true
  · simp [hr]
  · simp only [hr, Bool.false_eq_true, if_false]
    by_cases hy : y = x
    · subst hy
      simp [Memory.read_write_same v h]
    · rw [Memory.read_write_ne _ _ (fun e => hy (BitVec.eq_of_toNat_eq e))]
      simp [hy]

/-- No write reaches another address, whatever the form of memory. -/
theorem peek_writeByte_ne (s : State) (x : Word) (v : Byte) {y : Word} (hy : y ≠ x) :
    (s.writeByte x v).peek y = s.peek y := by
  simp only [State.peek, State.writeByte_mem]
  split
  · rfl
  · exact Memory.read_write_ne _ _ (fun e => hy (BitVec.eq_of_toNat_eq e))

/-- No write reaches a ROM address. -/
theorem peek_writeByte_rom (s : State) (x : Word) (v : Byte) {y : Word} (hy : s.isRom y = true) :
    (s.writeByte x v).peek y = s.peek y := by
  by_cases h : y = x
  · subst h; simp [State.peek, hy]
  · exact peek_writeByte_ne s x v h

theorem wf_writeByte {s : State} (h : s.mem.wf = true) (x : Word) (v : Byte) : (s.writeByte x v).mem.wf = true := by
  simp only [State.writeByte_mem]
  split
  · exact h
  · exact Memory.wf_write x v h

theorem wf_load {s : State} (h : s.mem.wf = true) (x : Word) (v : Byte) : (s.load x v).mem.wf = true :=
  Memory.wf_write x v h

theorem wf_loadBytes (bytes : List Byte) : ∀ {s : State} (x : Word), s.mem.wf = true → (s.loadBytes x bytes).mem.wf = true := by
  induction bytes with
  | nil => intro s x h; exact h
  | cons v rest ih => intro s x h; exact ih (x + 1) (wf_load h x v)

theorem wf_push {s : State} (h : s.mem.wf = true) (w : Word) : (s.push w).mem.wf = true :=
  wf_writeByte (s := (State.writeByte _ _ _).setSp _) (wf_writeByte (s := s.setSp _) h _ _) _ _

/-- A push (20_memory.md R62, R65): the word at `SP - 2`, bytes in ROM lost. -/
theorem peek_push {s : State} (h : s.mem.wf = true) (w : Word) (y : Word) :
    (s.push w).peek y =
      if y = s.sp - 2 ∧ s.isRom (s.sp - 2) = false then lo w
      else if y = s.sp - 1 ∧ s.isRom (s.sp - 1) = false then hi w
      else s.peek y := by
  let t := (s.setSp (s.sp - 1)).writeByte (s.sp - 1) (hi w)
  have ht : t.mem.wf = true := wf_writeByte (s := s.setSp _) h _ _
  have e1 := peek_writeByte (s := t.setSp (s.sp - 2)) ht (s.sp - 2) (lo w) y
  have e2 := peek_writeByte (s := s.setSp (s.sp - 1)) h (s.sp - 1) (hi w) y
  refine Eq.trans e1 ?_
  congr 1

/-- Two bytes stored at `x` and `x + 1`, in either order. -/
theorem storesWord_writeBytes {s : State} (h : s.mem.wf = true) (x w : Word) :
    StoresWord s ((s.writeByte x (lo w)).writeByte (x + 1) (hi w)) x w := by
  intro y
  have hne : x + 1 ≠ x := by bv_omega
  rw [peek_writeByte (wf_writeByte h _ _), peek_writeByte h]
  have hr : (s.writeByte x (lo w)).isRom (x + 1) = s.isRom (x + 1) := rfl
  rw [hr]
  by_cases h1 : y = x
  · subst h1; simp
  · simp [h1]

end Sys2Proof.Machine
end

