-- ==== Sys2Proof/Laws/Ops.lean ====
section
/-! SUPPORT. The words and flags the operations are made of, what the cycles of the bus leave, stores against the state
before an instruction, the parameters of R5 as data, and tacts without contention. -/

namespace Sys2Proof.Machine

/-! ### Words -/

theorem getLsbD_mkWord (v w : Byte) (n : Nat) :
    (mkWord v w).getLsbD n = if n < 8 then w.getLsbD n else v.getLsbD (n - 8) :=
  (BitVec.getLsbD_append (x := v) (y := w)).trans (by split <;> simp [*])

theorem getLsbD_hi (w : Word) (n : Nat) : (hi w).getLsbD n = (decide (n < 8) && w.getLsbD (8 + n)) := by simp [hi]

theorem getLsbD_lo (w : Word) (n : Nat) : (lo w).getLsbD n = (decide (n < 8) && w.getLsbD n) := by simp [lo]

@[simp] theorem hi_mkWord (v w : Byte) : hi (mkWord v w) = v := by
  apply BitVec.eq_of_getLsbD_eq
  intro n hn
  rw [getLsbD_hi, getLsbD_mkWord]
  simp [hn]

@[simp] theorem lo_mkWord (v w : Byte) : lo (mkWord v w) = w := by
  apply BitVec.eq_of_getLsbD_eq
  intro n hn
  rw [getLsbD_lo, getLsbD_mkWord]
  simp [hn]

@[simp] theorem mkWord_hi_lo (w : Word) : mkWord (hi w) (lo w) = w := by
  apply BitVec.eq_of_getLsbD_eq
  intro n hn
  rw [getLsbD_mkWord, getLsbD_hi, getLsbD_lo]
  split
  · simp [*]
  · have e : 8 + (n - 8) = n := by omega
    have e2 : n - 8 < 8 := by omega
    simp [e, e2]

@[simp] theorem add_two (x : Word) : x + 1#16 + 1#16 = x + 2#16 := by rw [BitVec.add_assoc]; rfl

@[simp] theorem add_three (x : Word) : x + 2#16 + 1#16 = x + 3#16 := by rw [BitVec.add_assoc]; rfl

@[simp] theorem add_four (x : Word) : x + 3#16 + 1#16 = x + 4#16 := by rw [BitVec.add_assoc]; rfl

theorem sub_two (x : Word) : x - 1#16 - 1#16 = x - 2#16 := by bv_omega

@[simp] theorem sub_two_add_one (x : Word) : x - 2#16 + 1#16 = x - 1#16 := by bv_omega

/-! ### Flags -/

@[simp] theorem flagS_mkF (s z y h x pv n c : Bool) : flagS (mkF s z y h x pv n c) = s := by
  revert s z y h x pv n c; decide

@[simp] theorem flagZ_mkF (s z y h x pv n c : Bool) : flagZ (mkF s z y h x pv n c) = z := by
  revert s z y h x pv n c; decide

@[simp] theorem flagY_mkF (s z y h x pv n c : Bool) : flagY (mkF s z y h x pv n c) = y := by
  revert s z y h x pv n c; decide

@[simp] theorem flagH_mkF (s z y h x pv n c : Bool) : flagH (mkF s z y h x pv n c) = h := by
  revert s z y h x pv n c; decide

@[simp] theorem flagX_mkF (s z y h x pv n c : Bool) : flagX (mkF s z y h x pv n c) = x := by
  revert s z y h x pv n c; decide

@[simp] theorem flagPV_mkF (s z y h x pv n c : Bool) : flagPV (mkF s z y h x pv n c) = pv := by
  revert s z y h x pv n c; decide

@[simp] theorem flagN_mkF (s z y h x pv n c : Bool) : flagN (mkF s z y h x pv n c) = n := by
  revert s z y h x pv n c; decide

@[simp] theorem flagC_mkF (s z y h x pv n c : Bool) : flagC (mkF s z y h x pv n c) = c := by
  revert s z y h x pv n c; decide

/-- `mkF` holds the flags it was given. -/
theorem hasFlags_mkF {s z y h x pv n c : Bool} {sf zf yf hf xf pf nf cf : Prop}
    (e : (s = true ↔ sf) ∧ (z = true ↔ zf) ∧ (y = true ↔ yf) ∧ (h = true ↔ hf) ∧ (x = true ↔ xf) ∧ (pv = true ↔ pf) ∧
      (n = true ↔ nf) ∧ (c = true ↔ cf)) : HasFlags (mkF s z y h x pv n c) sf zf yf hf xf pf nf cf := by
  simpa [HasFlags] using e

/-- `SZXY(v)` and the four other flags. -/
theorem hasFlags_szxy {v : Byte} {h pv n c : Bool} {hf pf nf cf : Prop}
    (e : (h = true ↔ hf) ∧ (pv = true ↔ pf) ∧ (n = true ↔ nf) ∧ (c = true ↔ cf)) :
    HasFlags (szxy v h pv n c) (v.getLsbD 7) (v = 0) (v.getLsbD 5) hf (v.getLsbD 3) pf nf cf := by
  simpa [HasFlags, szxy] using e

/-! ### What the cycles of the bus leave -/

@[simp] theorem peek_fetchOpcode (s : State) (y : Word) : s.fetchOpcode.peek y = s.peek y := rfl
@[simp] theorem peekWord_fetchOpcode (s : State) (y : Word) : s.fetchOpcode.peekWord y = s.peekWord y := rfl
@[simp] theorem isRom_fetchOpcode (s : State) (y : Word) : s.fetchOpcode.isRom y = s.isRom y := rfl
@[simp] theorem af_fetchOpcode (s : State) : s.fetchOpcode.af = s.af := rfl
@[simp] theorem bc_fetchOpcode (s : State) : s.fetchOpcode.bc = s.bc := rfl
@[simp] theorem de_fetchOpcode (s : State) : s.fetchOpcode.de = s.de := rfl
@[simp] theorem hl_fetchOpcode (s : State) : s.fetchOpcode.hl = s.hl := rfl
@[simp] theorem r8_fetchOpcode (s : State) (rr : Reg8) : s.fetchOpcode.r8 rr = s.r8 rr := rfl
@[simp] theorem pair_fetchOpcode (s : State) (dd : Pair) : s.fetchOpcode.pair dd = s.pair dd := rfl
@[simp] theorem pairQ_fetchOpcode (s : State) (qq : PairQ) : s.fetchOpcode.pairQ qq = s.pairQ qq := rfl
@[simp] theorem xy_fetchOpcode (s : State) (k : Idx) : s.fetchOpcode.xy k = s.xy k := rfl
@[simp] theorem rx_fetchOpcode (s : State) (k : Idx) (rx : RegX) : s.fetchOpcode.rx k rx = s.rx k rx := rfl
@[simp] theorem pairX_fetchOpcode (s : State) (k : Idx) (pp : PairX) : s.fetchOpcode.pairX k pp = s.pairX k pp := rfl
@[simp] theorem cond_fetchOpcode (s : State) (cc : Cond) : s.fetchOpcode.cond cc = s.cond cc := rfl
@[simp] theorem idxAddr_fetchOpcode (s : State) (k : Idx) (d : Byte) : s.fetchOpcode.idxAddr k d = s.idxAddr k d := rfl

@[simp] theorem peek_fetchByte (s : State) (y : Word) : s.fetchByte.peek y = s.peek y := rfl
@[simp] theorem peekWord_fetchByte (s : State) (y : Word) : s.fetchByte.peekWord y = s.peekWord y := rfl
@[simp] theorem isRom_fetchByte (s : State) (y : Word) : s.fetchByte.isRom y = s.isRom y := rfl
@[simp] theorem af_fetchByte (s : State) : s.fetchByte.af = s.af := rfl
@[simp] theorem bc_fetchByte (s : State) : s.fetchByte.bc = s.bc := rfl
@[simp] theorem de_fetchByte (s : State) : s.fetchByte.de = s.de := rfl
@[simp] theorem hl_fetchByte (s : State) : s.fetchByte.hl = s.hl := rfl
@[simp] theorem r8_fetchByte (s : State) (rr : Reg8) : s.fetchByte.r8 rr = s.r8 rr := rfl
@[simp] theorem pair_fetchByte (s : State) (dd : Pair) : s.fetchByte.pair dd = s.pair dd := rfl
@[simp] theorem pairQ_fetchByte (s : State) (qq : PairQ) : s.fetchByte.pairQ qq = s.pairQ qq := rfl
@[simp] theorem xy_fetchByte (s : State) (k : Idx) : s.fetchByte.xy k = s.xy k := rfl
@[simp] theorem rx_fetchByte (s : State) (k : Idx) (rx : RegX) : s.fetchByte.rx k rx = s.rx k rx := rfl
@[simp] theorem pairX_fetchByte (s : State) (k : Idx) (pp : PairX) : s.fetchByte.pairX k pp = s.pairX k pp := rfl
@[simp] theorem cond_fetchByte (s : State) (cc : Cond) : s.fetchByte.cond cc = s.cond cc := rfl
@[simp] theorem idxAddr_fetchByte (s : State) (k : Idx) (d : Byte) : s.fetchByte.idxAddr k d = s.idxAddr k d := rfl

@[simp] theorem peek_readCycle (s : State) (x : Word) (y : Word) : (s.readCycle x).peek y = s.peek y := rfl
@[simp] theorem peekWord_readCycle (s : State) (x : Word) (y : Word) : (s.readCycle x).peekWord y = s.peekWord y := rfl
@[simp] theorem isRom_readCycle (s : State) (x : Word) (y : Word) : (s.readCycle x).isRom y = s.isRom y := rfl
@[simp] theorem af_readCycle (s : State) (x : Word) : (s.readCycle x).af = s.af := rfl
@[simp] theorem bc_readCycle (s : State) (x : Word) : (s.readCycle x).bc = s.bc := rfl
@[simp] theorem de_readCycle (s : State) (x : Word) : (s.readCycle x).de = s.de := rfl
@[simp] theorem hl_readCycle (s : State) (x : Word) : (s.readCycle x).hl = s.hl := rfl
@[simp] theorem r8_readCycle (s : State) (x : Word) (rr : Reg8) : (s.readCycle x).r8 rr = s.r8 rr := rfl
@[simp] theorem pair_readCycle (s : State) (x : Word) (dd : Pair) : (s.readCycle x).pair dd = s.pair dd := rfl
@[simp] theorem pairQ_readCycle (s : State) (x : Word) (qq : PairQ) : (s.readCycle x).pairQ qq = s.pairQ qq := rfl
@[simp] theorem xy_readCycle (s : State) (x : Word) (k : Idx) : (s.readCycle x).xy k = s.xy k := rfl
@[simp] theorem rx_readCycle (s : State) (x : Word) (k : Idx) (rx : RegX) : (s.readCycle x).rx k rx = s.rx k rx := rfl
@[simp] theorem pairX_readCycle (s : State) (x : Word) (k : Idx) (pp : PairX) :
    (s.readCycle x).pairX k pp = s.pairX k pp := rfl
@[simp] theorem cond_readCycle (s : State) (x : Word) (cc : Cond) : (s.readCycle x).cond cc = s.cond cc := rfl
@[simp] theorem idxAddr_readCycle (s : State) (x : Word) (k : Idx) (d : Byte) :
    (s.readCycle x).idxAddr k d = s.idxAddr k d := rfl

@[simp] theorem peek_tick (s : State) (n : Nat) (y : Word) : (s.tick n).peek y = s.peek y := rfl
@[simp] theorem peekWord_tick (s : State) (n : Nat) (y : Word) : (s.tick n).peekWord y = s.peekWord y := rfl
@[simp] theorem isRom_tick (s : State) (n : Nat) (y : Word) : (s.tick n).isRom y = s.isRom y := rfl
@[simp] theorem af_tick (s : State) (n : Nat) : (s.tick n).af = s.af := rfl
@[simp] theorem bc_tick (s : State) (n : Nat) : (s.tick n).bc = s.bc := rfl
@[simp] theorem de_tick (s : State) (n : Nat) : (s.tick n).de = s.de := rfl
@[simp] theorem hl_tick (s : State) (n : Nat) : (s.tick n).hl = s.hl := rfl
@[simp] theorem r8_tick (s : State) (n : Nat) (rr : Reg8) : (s.tick n).r8 rr = s.r8 rr := rfl
@[simp] theorem pair_tick (s : State) (n : Nat) (dd : Pair) : (s.tick n).pair dd = s.pair dd := rfl
@[simp] theorem pairQ_tick (s : State) (n : Nat) (qq : PairQ) : (s.tick n).pairQ qq = s.pairQ qq := rfl
@[simp] theorem xy_tick (s : State) (n : Nat) (k : Idx) : (s.tick n).xy k = s.xy k := rfl
@[simp] theorem rx_tick (s : State) (n : Nat) (k : Idx) (rx : RegX) : (s.tick n).rx k rx = s.rx k rx := rfl
@[simp] theorem pairX_tick (s : State) (n : Nat) (k : Idx) (pp : PairX) : (s.tick n).pairX k pp = s.pairX k pp := rfl
@[simp] theorem cond_tick (s : State) (n : Nat) (cc : Cond) : (s.tick n).cond cc = s.cond cc := rfl
@[simp] theorem idxAddr_tick (s : State) (n : Nat) (k : Idx) (d : Byte) : (s.tick n).idxAddr k d = s.idxAddr k d := rfl

@[simp] theorem peek_refresh (s : State) (y : Word) : s.refresh.peek y = s.peek y := rfl
@[simp] theorem peekWord_refresh (s : State) (y : Word) : s.refresh.peekWord y = s.peekWord y := rfl
@[simp] theorem isRom_refresh (s : State) (y : Word) : s.refresh.isRom y = s.isRom y := rfl
@[simp] theorem af_refresh (s : State) : s.refresh.af = s.af := rfl
@[simp] theorem bc_refresh (s : State) : s.refresh.bc = s.bc := rfl
@[simp] theorem de_refresh (s : State) : s.refresh.de = s.de := rfl
@[simp] theorem hl_refresh (s : State) : s.refresh.hl = s.hl := rfl
@[simp] theorem r8_refresh (s : State) (rr : Reg8) : s.refresh.r8 rr = s.r8 rr := rfl
@[simp] theorem pair_refresh (s : State) (dd : Pair) : s.refresh.pair dd = s.pair dd := rfl
@[simp] theorem pairQ_refresh (s : State) (qq : PairQ) : s.refresh.pairQ qq = s.pairQ qq := rfl
@[simp] theorem xy_refresh (s : State) (k : Idx) : s.refresh.xy k = s.xy k := rfl
@[simp] theorem rx_refresh (s : State) (k : Idx) (rx : RegX) : s.refresh.rx k rx = s.rx k rx := rfl
@[simp] theorem pairX_refresh (s : State) (k : Idx) (pp : PairX) : s.refresh.pairX k pp = s.pairX k pp := rfl
@[simp] theorem cond_refresh (s : State) (cc : Cond) : s.refresh.cond cc = s.cond cc := rfl
@[simp] theorem idxAddr_refresh (s : State) (k : Idx) (d : Byte) : s.refresh.idxAddr k d = s.idxAddr k d := rfl

@[simp] theorem peek_portInCycle (s : State) (p : Word) (y : Word) : (s.portInCycle p).peek y = s.peek y := rfl
@[simp] theorem peekWord_portInCycle (s : State) (p : Word) (y : Word) :
    (s.portInCycle p).peekWord y = s.peekWord y := rfl
@[simp] theorem isRom_portInCycle (s : State) (p : Word) (y : Word) : (s.portInCycle p).isRom y = s.isRom y := rfl
@[simp] theorem af_portInCycle (s : State) (p : Word) : (s.portInCycle p).af = s.af := rfl
@[simp] theorem bc_portInCycle (s : State) (p : Word) : (s.portInCycle p).bc = s.bc := rfl
@[simp] theorem de_portInCycle (s : State) (p : Word) : (s.portInCycle p).de = s.de := rfl
@[simp] theorem hl_portInCycle (s : State) (p : Word) : (s.portInCycle p).hl = s.hl := rfl
@[simp] theorem r8_portInCycle (s : State) (p : Word) (rr : Reg8) : (s.portInCycle p).r8 rr = s.r8 rr := rfl
@[simp] theorem pair_portInCycle (s : State) (p : Word) (dd : Pair) : (s.portInCycle p).pair dd = s.pair dd := rfl
@[simp] theorem pairQ_portInCycle (s : State) (p : Word) (qq : PairQ) : (s.portInCycle p).pairQ qq = s.pairQ qq := rfl
@[simp] theorem xy_portInCycle (s : State) (p : Word) (k : Idx) : (s.portInCycle p).xy k = s.xy k := rfl
@[simp] theorem rx_portInCycle (s : State) (p : Word) (k : Idx) (rx : RegX) :
    (s.portInCycle p).rx k rx = s.rx k rx := rfl
@[simp] theorem pairX_portInCycle (s : State) (p : Word) (k : Idx) (pp : PairX) :
    (s.portInCycle p).pairX k pp = s.pairX k pp := rfl
@[simp] theorem cond_portInCycle (s : State) (p : Word) (cc : Cond) : (s.portInCycle p).cond cc = s.cond cc := rfl
@[simp] theorem idxAddr_portInCycle (s : State) (p : Word) (k : Idx) (d : Byte) :
    (s.portInCycle p).idxAddr k d = s.idxAddr k d := rfl

@[simp] theorem peek_portOut (s : State) (p : Word) (v : Byte) (y : Word) : (s.portOut p v).peek y = s.peek y := rfl
@[simp] theorem peekWord_portOut (s : State) (p : Word) (v : Byte) (y : Word) :
    (s.portOut p v).peekWord y = s.peekWord y := rfl
@[simp] theorem isRom_portOut (s : State) (p : Word) (v : Byte) (y : Word) : (s.portOut p v).isRom y = s.isRom y := rfl
@[simp] theorem af_portOut (s : State) (p : Word) (v : Byte) : (s.portOut p v).af = s.af := rfl
@[simp] theorem bc_portOut (s : State) (p : Word) (v : Byte) : (s.portOut p v).bc = s.bc := rfl
@[simp] theorem de_portOut (s : State) (p : Word) (v : Byte) : (s.portOut p v).de = s.de := rfl
@[simp] theorem hl_portOut (s : State) (p : Word) (v : Byte) : (s.portOut p v).hl = s.hl := rfl
@[simp] theorem r8_portOut (s : State) (p : Word) (v : Byte) (rr : Reg8) : (s.portOut p v).r8 rr = s.r8 rr := rfl
@[simp] theorem pair_portOut (s : State) (p : Word) (v : Byte) (dd : Pair) : (s.portOut p v).pair dd = s.pair dd := rfl
@[simp] theorem pairQ_portOut (s : State) (p : Word) (v : Byte) (qq : PairQ) :
    (s.portOut p v).pairQ qq = s.pairQ qq := rfl
@[simp] theorem xy_portOut (s : State) (p : Word) (v : Byte) (k : Idx) : (s.portOut p v).xy k = s.xy k := rfl
@[simp] theorem rx_portOut (s : State) (p : Word) (v : Byte) (k : Idx) (rx : RegX) :
    (s.portOut p v).rx k rx = s.rx k rx := rfl
@[simp] theorem pairX_portOut (s : State) (p : Word) (v : Byte) (k : Idx) (pp : PairX) :
    (s.portOut p v).pairX k pp = s.pairX k pp := rfl
@[simp] theorem cond_portOut (s : State) (p : Word) (v : Byte) (cc : Cond) : (s.portOut p v).cond cc = s.cond cc := rfl
@[simp] theorem idxAddr_portOut (s : State) (p : Word) (v : Byte) (k : Idx) (d : Byte) :
    (s.portOut p v).idxAddr k d = s.idxAddr k d := rfl

@[simp] theorem isRom_writeByte (s : State) (x : Word) (v : Byte) (y : Word) :
    (s.writeByte x v).isRom y = s.isRom y := rfl
@[simp] theorem af_writeByte (s : State) (x : Word) (v : Byte) : (s.writeByte x v).af = s.af := rfl
@[simp] theorem bc_writeByte (s : State) (x : Word) (v : Byte) : (s.writeByte x v).bc = s.bc := rfl
@[simp] theorem de_writeByte (s : State) (x : Word) (v : Byte) : (s.writeByte x v).de = s.de := rfl
@[simp] theorem hl_writeByte (s : State) (x : Word) (v : Byte) : (s.writeByte x v).hl = s.hl := rfl
@[simp] theorem r8_writeByte (s : State) (x : Word) (v : Byte) (rr : Reg8) : (s.writeByte x v).r8 rr = s.r8 rr := rfl
@[simp] theorem pair_writeByte (s : State) (x : Word) (v : Byte) (dd : Pair) :
    (s.writeByte x v).pair dd = s.pair dd := rfl
@[simp] theorem pairQ_writeByte (s : State) (x : Word) (v : Byte) (qq : PairQ) :
    (s.writeByte x v).pairQ qq = s.pairQ qq := rfl
@[simp] theorem xy_writeByte (s : State) (x : Word) (v : Byte) (k : Idx) : (s.writeByte x v).xy k = s.xy k := rfl
@[simp] theorem rx_writeByte (s : State) (x : Word) (v : Byte) (k : Idx) (rx : RegX) :
    (s.writeByte x v).rx k rx = s.rx k rx := rfl
@[simp] theorem pairX_writeByte (s : State) (x : Word) (v : Byte) (k : Idx) (pp : PairX) :
    (s.writeByte x v).pairX k pp = s.pairX k pp := rfl
@[simp] theorem cond_writeByte (s : State) (x : Word) (v : Byte) (cc : Cond) :
    (s.writeByte x v).cond cc = s.cond cc := rfl
@[simp] theorem idxAddr_writeByte (s : State) (x : Word) (v : Byte) (k : Idx) (d : Byte) :
    (s.writeByte x v).idxAddr k d = s.idxAddr k d := rfl

/-! ### Register writes leave memory -/

@[simp] theorem peek_setA (s : State) (v : Byte) (y : Word) : (s.setA v).peek y = s.peek y := rfl
@[simp] theorem isRom_setA (s : State) (v : Byte) (y : Word) : (s.setA v).isRom y = s.isRom y := rfl
@[simp] theorem peek_setF (s : State) (v : Byte) (y : Word) : (s.setF v).peek y = s.peek y := rfl
@[simp] theorem isRom_setF (s : State) (v : Byte) (y : Word) : (s.setF v).isRom y = s.isRom y := rfl
@[simp] theorem peek_setB (s : State) (v : Byte) (y : Word) : (s.setB v).peek y = s.peek y := rfl
@[simp] theorem isRom_setB (s : State) (v : Byte) (y : Word) : (s.setB v).isRom y = s.isRom y := rfl
@[simp] theorem peek_setI (s : State) (v : Byte) (y : Word) : (s.setI v).peek y = s.peek y := rfl
@[simp] theorem isRom_setI (s : State) (v : Byte) (y : Word) : (s.setI v).isRom y = s.isRom y := rfl
@[simp] theorem peek_setR (s : State) (v : Byte) (y : Word) : (s.setR v).peek y = s.peek y := rfl
@[simp] theorem isRom_setR (s : State) (v : Byte) (y : Word) : (s.setR v).isRom y = s.isRom y := rfl
@[simp] theorem peek_setSp (s : State) (w : Word) (y : Word) : (s.setSp w).peek y = s.peek y := rfl
@[simp] theorem isRom_setSp (s : State) (w : Word) (y : Word) : (s.setSp w).isRom y = s.isRom y := rfl
@[simp] theorem peek_setPc (s : State) (w : Word) (y : Word) : (s.setPc w).peek y = s.peek y := rfl
@[simp] theorem isRom_setPc (s : State) (w : Word) (y : Word) : (s.setPc w).isRom y = s.isRom y := rfl
@[simp] theorem peek_setMw (s : State) (w : Word) (y : Word) : (s.setMw w).peek y = s.peek y := rfl
@[simp] theorem isRom_setMw (s : State) (w : Word) (y : Word) : (s.setMw w).isRom y = s.isRom y := rfl
@[simp] theorem peek_setIm (s : State) (m : IntMode) (y : Word) : (s.setIm m).peek y = s.peek y := rfl
@[simp] theorem isRom_setIm (s : State) (m : IntMode) (y : Word) : (s.setIm m).isRom y = s.isRom y := rfl
@[simp] theorem peek_setIff (s : State) (v1 v2 : Bool) (y : Word) : (s.setIff v1 v2).peek y = s.peek y := rfl
@[simp] theorem isRom_setIff (s : State) (v1 v2 : Bool) (y : Word) : (s.setIff v1 v2).isRom y = s.isRom y := rfl
@[simp] theorem peek_blockInt (s : State) (y : Word) : s.blockInt.peek y = s.peek y := rfl
@[simp] theorem isRom_blockInt (s : State) (y : Word) : s.blockInt.isRom y = s.isRom y := rfl
@[simp] theorem peek_setAf (s : State) (w : Word) (y : Word) : (s.setAf w).peek y = s.peek y := rfl
@[simp] theorem isRom_setAf (s : State) (w : Word) (y : Word) : (s.setAf w).isRom y = s.isRom y := rfl
@[simp] theorem peek_setBc (s : State) (w : Word) (y : Word) : (s.setBc w).peek y = s.peek y := rfl
@[simp] theorem isRom_setBc (s : State) (w : Word) (y : Word) : (s.setBc w).isRom y = s.isRom y := rfl
@[simp] theorem peek_setDe (s : State) (w : Word) (y : Word) : (s.setDe w).peek y = s.peek y := rfl
@[simp] theorem isRom_setDe (s : State) (w : Word) (y : Word) : (s.setDe w).isRom y = s.isRom y := rfl
@[simp] theorem peek_setHl (s : State) (w : Word) (y : Word) : (s.setHl w).peek y = s.peek y := rfl
@[simp] theorem isRom_setHl (s : State) (w : Word) (y : Word) : (s.setHl w).isRom y = s.isRom y := rfl
@[simp] theorem peek_enterAt (s : State) (w : Word) (y : Word) : (s.enterAt w).peek y = s.peek y := rfl
@[simp] theorem isRom_enterAt (s : State) (w : Word) (y : Word) : (s.enterAt w).isRom y = s.isRom y := rfl
@[simp] theorem peek_leaveHalt (s : State) (y : Word) : s.leaveHalt.peek y = s.peek y := rfl
@[simp] theorem isRom_leaveHalt (s : State) (y : Word) : s.leaveHalt.isRom y = s.isRom y := rfl
@[simp] theorem peek_setR8 (s : State) (rr : Reg8) (v : Byte) (y : Word) :
    (s.setR8 rr v).peek y = s.peek y := by cases rr <;> rfl
@[simp] theorem isRom_setR8 (s : State) (rr : Reg8) (v : Byte) (y : Word) :
    (s.setR8 rr v).isRom y = s.isRom y := by cases rr <;> rfl
@[simp] theorem peek_setPair (s : State) (dd : Pair) (w : Word) (y : Word) :
    (s.setPair dd w).peek y = s.peek y := by cases dd <;> rfl
@[simp] theorem isRom_setPair (s : State) (dd : Pair) (w : Word) (y : Word) :
    (s.setPair dd w).isRom y = s.isRom y := by cases dd <;> rfl
@[simp] theorem peek_setPairQ (s : State) (qq : PairQ) (w : Word) (y : Word) :
    (s.setPairQ qq w).peek y = s.peek y := by cases qq <;> rfl
@[simp] theorem isRom_setPairQ (s : State) (qq : PairQ) (w : Word) (y : Word) :
    (s.setPairQ qq w).isRom y = s.isRom y := by cases qq <;> rfl
@[simp] theorem peek_setXy (s : State) (k : Idx) (w : Word) (y : Word) :
    (s.setXy k w).peek y = s.peek y := by cases k <;> rfl
@[simp] theorem isRom_setXy (s : State) (k : Idx) (w : Word) (y : Word) :
    (s.setXy k w).isRom y = s.isRom y := by cases k <;> rfl
@[simp] theorem peek_setRx (s : State) (k : Idx) (rx : RegX) (v : Byte) (y : Word) :
    (s.setRx k rx v).peek y = s.peek y := by cases rx <;> cases k <;> rfl
@[simp] theorem isRom_setRx (s : State) (k : Idx) (rx : RegX) (v : Byte) (y : Word) :
    (s.setRx k rx v).isRom y = s.isRom y := by cases rx <;> cases k <;> rfl

/-! ### Stores, against the state before the instruction -/

/-- A state whose memory is that of `t` after a store, `t` agreeing with `s` on memory and configuration. -/
theorem storesByte_of {s t u : State} {x : Word} {v : Byte} (h : t.mem.wf = true) (hm : t.mem = s.mem) (hc : t.cfg = s.cfg)
    (hu : u.mem = (t.writeByte x v).mem) : StoresByte s u x v := by
  intro y
  have e1 : u.peek y = (t.writeByte x v).peek y := by simp only [State.peek, hu]
  have e2 : t.peek y = s.peek y := by simp only [State.peek, hm]
  have e3 : t.isRom x = s.isRom x := by simp only [State.isRom, hc]
  rw [e1, peek_writeByte h, e2]
  simp only [e3]

/-- The same for a word, low byte first. -/
theorem storesWord_of {s t u : State} {x w : Word} (h : t.mem.wf = true) (hm : t.mem = s.mem) (hc : t.cfg = s.cfg)
    (hu : u.mem = ((t.writeByte x (lo w)).writeByte (x + 1) (hi w)).mem) : StoresWord s u x w := by
  intro y
  have e1 : u.peek y = ((t.writeByte x (lo w)).writeByte (x + 1) (hi w)).peek y := by simp only [State.peek, hu]
  have e2 : t.peek y = s.peek y := by simp only [State.peek, hm]
  have e3 : ∀ z, t.isRom z = s.isRom z := fun z => by simp only [State.isRom, hc]
  rw [e1, storesWord_writeBytes h, e2]
  simp only [e3]

/-- The same for a word, high byte first: `PUSH`, `CALL` and `EX (SP),HL`. -/
theorem storesWord_highFirst {s t u : State} {x w : Word} (h : t.mem.wf = true) (hm : t.mem = s.mem) (hc : t.cfg = s.cfg)
    (hu : u.mem = ((t.writeByte (x + 1) (hi w)).writeByte x (lo w)).mem) : StoresWord s u x w := by
  intro y
  have hne : x + 1 ≠ x := by bv_omega
  have e1 : u.peek y = ((t.writeByte (x + 1) (hi w)).writeByte x (lo w)).peek y := by simp only [State.peek, hu]
  have e2 : t.peek y = s.peek y := by simp only [State.peek, hm]
  have e3 : ∀ z, t.isRom z = s.isRom z := fun z => by simp only [State.isRom, hc]
  rw [e1, peek_writeByte (wf_writeByte h _ _), peek_writeByte h, e2]
  have e4 : (t.writeByte (x + 1) (hi w)).isRom x = s.isRom x := e3 x
  rw [e4]
  simp only [e3]

/-- The same for a push from `t`. -/
theorem storesWord_push {s t u : State} {w : Word} (h : t.mem.wf = true) (hm : t.mem = s.mem) (hc : t.cfg = s.cfg)
    (hs : t.sp = s.sp) (hu : u.mem = (t.push w).mem) : StoresWord s u (s.sp - 2) w := by
  refine storesWord_highFirst h hm hc (hu.trans ?_)
  have e : s.sp - 2 + 1 = s.sp - 1 := by bv_omega
  rw [e, ← hs]
  rfl

/-- Only the memory of the second state counts. -/
theorem StoresByte.congr {s t u : State} {x : Word} {v : Byte} (h : StoresByte s t x v) (e : u.mem = t.mem) :
    StoresByte s u x v := by
  intro y
  have e1 : u.peek y = t.peek y := by simp only [State.peek, e]
  rw [e1, h y]

theorem StoresWord.congr {s t u : State} {x w : Word} (h : StoresWord s t x w) (e : u.mem = t.mem) :
    StoresWord s u x w := by
  intro y
  have e1 : u.peek y = t.peek y := by simp only [State.peek, e]
  rw [e1, h y]

/-! ### The parameters of R5 as data -/

theorem contentionAt_covered {g : ContentionBand} {ft : Nat} (h : bandCovers g ft = true) (rest : List ContentionBand) :
    contentionAt (g :: rest) ft = bandWait g ft := by simp [contentionAt, h]

theorem contentionAt_uncovered {g : ContentionBand} {ft : Nat} (h : bandCovers g ft = false) (rest : List ContentionBand) :
    contentionAt (g :: rest) ft = contentionAt rest ft := by simp [contentionAt, h]

/-- A band covers a tact exactly when the tact is a place in the active part of one of its scanlines. -/
theorem bandCovers_iff (g : ContentionBand) (ft : Nat) :
    bandCovers g ft = true ↔
      ∃ line p, line < g.lines ∧ p < g.lineTacts ∧ p < g.activeTacts ∧ ft = g.start + line * g.lineTacts + p := by
  simp only [bandCovers, Bool.and_eq_true, decide_eq_true_eq]
  constructor
  · rintro ⟨⟨h1, h2⟩, h3⟩
    have pos : 0 < g.lineTacts := Nat.pos_of_ne_zero fun e => by simp [e] at h2; omega
    refine ⟨(ft - g.start) / g.lineTacts, (ft - g.start) % g.lineTacts, ?_, Nat.mod_lt _ pos, h3, ?_⟩
    · rw [Nat.div_lt_iff_lt_mul pos]; omega
    · have := Nat.div_add_mod (ft - g.start) g.lineTacts
      rw [Nat.mul_comm] at this
      omega
  · rintro ⟨line, p, hl, hp, ha, rfl⟩
    have le : (line + 1) * g.lineTacts ≤ g.lines * g.lineTacts := Nat.mul_le_mul_right _ hl
    rw [Nat.add_mul, Nat.one_mul] at le
    have e : g.start + line * g.lineTacts + p - g.start = p + line * g.lineTacts := by omega
    refine ⟨⟨by omega, by omega⟩, ?_⟩
    rw [e, Nat.add_mul_mod_self_right, Nat.mod_eq_of_lt hp]
    exact ha

/-- One tact with one wait: the smallest band. -/
def oneTactBand (ft n : Nat) : ContentionBand :=
  { start := ft, lines := 1, lineTacts := 1, activeTacts := 1, phaseStep := 0, pattern := [n] }

/-- Whatever table `CONTENTION` is on the first `n` tacts of a frame, some list of bands gives it: the data shape of log 3
leaves no configuration of R5 out. -/
theorem contention_covers_every_table (f : Nat → Nat) :
    ∀ n, ∃ k : List ContentionBand, ∀ ft, contentionAt k ft = if ft < n then f ft else 0
  | 0 => ⟨[], fun _ => by simp [contentionAt]⟩
  | n + 1 => by
    obtain ⟨k, hk⟩ := contention_covers_every_table f n
    refine ⟨oneTactBand n (f n) :: k, fun ft => ?_⟩
    by_cases h : ft = n
    · subst h
      simp [contentionAt, bandCovers, bandWait, oneTactBand]
    · rw [contentionAt_uncovered, hk]
      · by_cases h' : ft < n <;> simp [h', show (ft < n + 1) = (ft < n) from by rw [eq_iff_iff]; omega]
      · refine Bool.eq_false_iff.2 fun hc => h ?_
        obtain ⟨line, p, hl, -, hp, e⟩ := (bandCovers_iff _ ft).1 hc
        simp only [oneTactBand] at hl hp e
        omega

/-- Whatever set of addresses is contended or ROM, some list of ranges is it. -/
theorem ranges_cover_every_set (f : Word → Bool) : ∃ ranges, ∀ x, inRanges ranges x = f x := by
  refine ⟨(((List.range 65536).map (BitVec.ofNat 16)).filter f).map fun x => ⟨x, x⟩, fun x => ?_⟩
  rw [Bool.eq_iff_iff]
  simp only [inRanges, List.any_eq_true, List.mem_map, List.mem_filter, List.mem_range, Bool.and_eq_true,
    decide_eq_true_eq]
  constructor
  · rintro ⟨_, ⟨y, ⟨-, hy⟩, rfl⟩, h1, h2⟩
    rwa [BitVec.eq_of_toNat_eq (Nat.le_antisymm h2 h1)]
  · intro h
    exact ⟨_, ⟨x, ⟨⟨x.toNat, x.isLt, by simp⟩, h⟩, rfl⟩, Nat.le_refl _, Nat.le_refl _⟩

/-- Whatever set of ports is contended, some list of mask matches is it. -/
theorem matches_cover_every_set (f : Word → Bool) :
    ∃ ms : List PortMatch, ∀ p : Word, (ms.any fun g => p &&& g.mask == g.value) = f p := by
  refine ⟨(((List.range 65536).map (BitVec.ofNat 16)).filter f).map fun x => ⟨0xFFFF, x⟩, fun p => ?_⟩
  rw [Bool.eq_iff_iff]
  simp only [List.any_eq_true, List.mem_map, List.mem_filter, List.mem_range, beq_iff_eq]
  have all : p &&& 0xFFFF#16 = p := by
    have e : (0xFFFF#16) = BitVec.allOnes 16 := by decide
    rw [e, BitVec.and_allOnes]
  constructor
  · rintro ⟨_, ⟨y, ⟨-, hy⟩, rfl⟩, h⟩
    exact (all.symm.trans h) ▸ hy
  · intro h
    exact ⟨_, ⟨p, ⟨⟨p.toNat, p.isLt, by simp⟩, h⟩, rfl⟩, all⟩

/-! ### With contention: `Tacts` after each primitive (R73) -/

/-- Which addresses and ports are contended depends on the configuration alone. -/
theorem contendedAddr_of_cfg {s t : State} (e : t.cfg = s.cfg) (x : Word) : t.contendedAddr x = s.contendedAddr x := by
  simp only [State.contendedAddr, e]

theorem contendedPort_of_cfg {s t : State} (e : t.cfg = s.cfg) (p : Word) : t.contendedPort p = s.contendedPort p := by
  simp only [State.contendedPort, State.contendedAddr, e]

theorem fetchOpcode_waits (s : State) :
    s.fetchOpcode.tacts = afterContend s.cfg (s.contendedAddr s.pc) s.tacts + 4 := rfl

theorem fetchByte_waits (s : State) : s.fetchByte.tacts = afterContend s.cfg (s.contendedAddr s.pc) s.tacts + 3 := rfl

theorem readCycle_waits (s : State) (x : Word) :
    (s.readCycle x).tacts = afterContend s.cfg (s.contendedAddr x) s.tacts + 3 := rfl

theorem writeByte_waits (s : State) (x : Word) (v : Byte) :
    (s.writeByte x v).tacts = afterContend s.cfg (s.contendedAddr x) s.tacts + 3 := rfl

theorem portTact_waits (s : State) (p : Word) : s.portTact p = afterContend s.cfg (s.contendedPort p) s.tacts := rfl

/-! ### Without contention -/

theorem waitMem_uncontended {s : State} (h : s.Uncontended) (x : Word) : s.waitMem x = 0 := by
  simp [State.waitMem, h s.frameTact]

theorem waitPort_uncontended {s : State} (h : s.Uncontended) (p : Word) : s.waitPort p = 0 := by
  simp [State.waitPort, h s.frameTact]

/-- Contention depends on the configuration alone. -/
theorem Uncontended.of_cfg {s t : State} (h : s.Uncontended) (e : t.cfg = s.cfg) : t.Uncontended := by
  intro ft; rw [e]; exact h ft

theorem fetchOpcode_uncontended {s : State} (h : s.Uncontended) : s.fetchOpcode.tacts = s.tacts + 4 := by
  simp [waitMem_uncontended h]

theorem fetchByte_uncontended {s : State} (h : s.Uncontended) : s.fetchByte.tacts = s.tacts + 3 := by
  simp [waitMem_uncontended h]

theorem readCycle_uncontended {s : State} (h : s.Uncontended) (x : Word) : (s.readCycle x).tacts = s.tacts + 3 := by
  simp [waitMem_uncontended h]

theorem writeByte_uncontended {s : State} (h : s.Uncontended) (x : Word) (v : Byte) :
    (s.writeByte x v).tacts = s.tacts + 3 := by
  simp [waitMem_uncontended h]

theorem portInCycle_uncontended {s : State} (h : s.Uncontended) (p : Word) : (s.portInCycle p).tacts = s.tacts + 4 := by
  simp [State.portTact, waitPort_uncontended h]

theorem portOut_uncontended {s : State} (h : s.Uncontended) (p : Word) (v : Byte) :
    (s.portOut p v).tacts = s.tacts + 4 := by
  simp [State.portTact, waitPort_uncontended h]

end Sys2Proof.Machine
end

