-- ==== Sys2Proof/Laws/Does.lean ====
section
/-! SUPPORT. Everything each shared operation of the instruction families can do: the fields it changes, the bytes it
stores, and its tacts without contention. -/

set_option linter.unusedSimpArgs false

namespace Sys2Proof.Machine

@[simp] theorem fetchPrefixed_eq (s : State) : s.fetchPrefixed = s.fetchOpcode.fetchOpcode := rfl

@[simp] theorem fetchIndexed_eq (s : State) : s.fetchIndexed = (s.fetchOpcode.fetchOpcode.fetchByte).tick 5 := rfl

@[simp] theorem fetchIdxCb_eq (s : State) : s.fetchIdxCb = (s.fetchOpcode.fetchOpcode.fetchByte.fetchByte).tick 2 := rfl

theorem ran_self (s : State) : s.ran s = s := rfl

/-! ### Loads -/

/-- A store of `A` (R141 to R143). -/
theorem storeA_does (x : Word) (s : State) :
    let t := storeA x s
    t = { s with
      mw := mkWord s.a (lo (x + 1)), tacts := t.tacts, mem := t.mem } ∧
    (s.mem.wf = true → StoresByte s t x s.a) := by
  constructor
  · simp [storeA, State.ext_iff]
  · intro h
    apply storesByte_of (t := s) <;> simp [storeA, h]

theorem storeA_tacts (x : Word) (s : State) (h : s.Uncontended) :
    (storeA x s).tacts = s.tacts + 3 := by
  have e : ∀ n, contentionAt s.cfg.contention n = 0 := h
  simp [storeA, State.waitMem, State.waitPort, State.portTact, e, BitVec.add_assoc]

/-- A load of `A` (R138 to R140). -/
theorem loadA_does (x : Word) (s : State) :
    let t := loadA x s
    t = { s with
      a := s.peek x, mw := x + 1, tacts := t.tacts } := by
  simp [loadA, State.ext_iff]

theorem loadA_tacts (x : Word) (s : State) (h : s.Uncontended) :
    (loadA x s).tacts = s.tacts + 3 := by
  have e : ∀ n, contentionAt s.cfg.contention n = 0 := h
  simp [loadA, State.waitMem, State.waitPort, State.portTact, e, BitVec.add_assoc]

/-- `LD A,I` and `LD A,R` (R144, R145). -/
theorem loadSpecial_does (v : Byte) (s : State) :
    let t := loadSpecial v s
    t = { s with
      a := v, f := specialFlags s.f v s.iff2, pc := s.pc + 2, r := bumpR (bumpR s.r), tacts := t.tacts } := by
  simp [loadSpecial, State.ext_iff]

theorem loadSpecial_tacts (v : Byte) (s : State) (h : s.Uncontended) :
    (loadSpecial v s).tacts = s.tacts + 9 := by
  have e : ∀ n, contentionAt s.cfg.contention n = 0 := h
  simp [loadSpecial, State.waitMem, State.waitPort, State.portTact, e, BitVec.add_assoc]

/-- `LD r,(XY+d)` (R133). -/
theorem loadIdxReg_does (k : Idx) (rr : Reg8) (d : Byte) (s : State) :
    let t := loadIdxReg k rr d s
    t = { s.setR8 rr (s.peek (s.idxAddr k d)) with
      mw := s.idxAddr k d, pc := s.pc + 3, r := bumpR (bumpR s.r), tacts := t.tacts } := by
  simp [loadIdxReg, State.ext_iff]

theorem loadIdxReg_tacts (k : Idx) (rr : Reg8) (d : Byte) (s : State) (h : s.Uncontended) :
    (loadIdxReg k rr d s).tacts = s.tacts + 19 := by
  have e : ∀ n, contentionAt s.cfg.contention n = 0 := h
  simp [loadIdxReg, State.waitMem, State.waitPort, State.portTact, e, BitVec.add_assoc]

/-- `LD (XY+d),r` (R135). -/
theorem storeIdxReg_does (k : Idx) (d : Byte) (rr : Reg8) (s : State) :
    let t := storeIdxReg k d rr s
    t = { s with
      mw := s.idxAddr k d, pc := s.pc + 3, r := bumpR (bumpR s.r), tacts := t.tacts, mem := t.mem } ∧
    (s.mem.wf = true → StoresByte s t (s.idxAddr k d) (s.r8 rr)) := by
  constructor
  · simp [storeIdxReg, State.ext_iff]
  · intro h
    apply storesByte_of (t := s.fetchIndexed) <;> simp [storeIdxReg, h]

theorem storeIdxReg_tacts (k : Idx) (d : Byte) (rr : Reg8) (s : State) (h : s.Uncontended) :
    (storeIdxReg k d rr s).tacts = s.tacts + 19 := by
  have e : ∀ n, contentionAt s.cfg.contention n = 0 := h
  simp [storeIdxReg, State.waitMem, State.waitPort, State.portTact, e, BitVec.add_assoc]

/-- `LD (XY+d),n` (R137). -/
theorem storeIdxImm_does (k : Idx) (d n : Byte) (s : State) :
    let t := storeIdxImm k d n s
    t = { s with
      mw := s.idxAddr k d, pc := s.pc + 4, r := bumpR (bumpR s.r), tacts := t.tacts, mem := t.mem } ∧
    (s.mem.wf = true → StoresByte s t (s.idxAddr k d) n) := by
  constructor
  · simp [storeIdxImm, State.ext_iff]
  · intro h
    apply storesByte_of (t := (s.fetchPrefixed.fetchByte.fetchByte).tick 2) <;> simp [storeIdxImm, h]

theorem storeIdxImm_tacts (k : Idx) (d n : Byte) (s : State) (h : s.Uncontended) :
    (storeIdxImm k d n s).tacts = s.tacts + 19 := by
  have e : ∀ n, contentionAt s.cfg.contention n = 0 := h
  simp [storeIdxImm, State.waitMem, State.waitPort, State.portTact, e, BitVec.add_assoc]

/-- The reads of a word load (R162 to R164). -/
theorem loadWordCycles_does (nn : Word) (s : State) :
    let t := loadWordCycles nn s
    t = { s with
      mw := nn + 1, tacts := t.tacts } := by
  simp [loadWordCycles, State.ext_iff]

theorem loadWordCycles_tacts (nn : Word) (s : State) (h : s.Uncontended) :
    (loadWordCycles nn s).tacts = s.tacts + 6 := by
  have e : ∀ n, contentionAt s.cfg.contention n = 0 := h
  simp [loadWordCycles, State.waitMem, State.waitPort, State.portTact, e, BitVec.add_assoc]

/-- A word store (R165 to R167). -/
theorem storeWord_does (nn w : Word) (s : State) :
    let t := storeWord nn w s
    t = { s with
      mw := nn + 1, tacts := t.tacts, mem := t.mem } ∧
    (s.mem.wf = true → StoresWord s t nn w) := by
  constructor
  · simp [storeWord, State.ext_iff]
  · intro h
    apply storesWord_of (t := s) <;> simp [storeWord, h]

theorem storeWord_tacts (nn w : Word) (s : State) (h : s.Uncontended) :
    (storeWord nn w s).tacts = s.tacts + 6 := by
  have e : ∀ n, contentionAt s.cfg.contention n = 0 := h
  simp [storeWord, State.waitMem, State.waitPort, State.portTact, e, BitVec.add_assoc]

/-- A push (R65). -/
theorem State.push_does (s : State) (w : Word) :
    let t := s.push w
    t = { s with
      sp := s.sp - 2, tacts := t.tacts, mem := t.mem } ∧
    (s.mem.wf = true → StoresWord s t (s.sp - 2) w) := by
  constructor
  · simp [State.push, State.ext_iff]
  · intro h
    apply storesWord_push (t := s) <;> simp [State.push, h]

theorem State.push_tacts (s : State) (w : Word) (h : s.Uncontended) :
    (s.push w).tacts = s.tacts + 6 := by
  have e : ∀ n, contentionAt s.cfg.contention n = 0 := h
  simp [State.push, State.waitMem, State.waitPort, State.portTact, e, BitVec.add_assoc]

/-- The cycles of a pop. -/
theorem State.popCycles_does (s : State) :
    let t := s.popCycles
    t = { s with
      sp := s.sp + 2, tacts := t.tacts } := by
  simp [State.popCycles, State.ext_iff]

theorem State.popCycles_tacts (s : State) (h : s.Uncontended) :
    (s.popCycles).tacts = s.tacts + 6 := by
  have e : ∀ n, contentionAt s.cfg.contention n = 0 := h
  simp [State.popCycles, State.waitMem, State.waitPort, State.portTact, e, BitVec.add_assoc]

/-! ### Exchanges and block instructions -/

/-- `EX AF,AF'` (R191). -/
theorem exchangeAf_does (s : State) :
    let t := exchangeAf s
    t = { s with
      a := hi s.afAlt, f := lo s.afAlt, afAlt := s.af, pc := s.pc + 1, r := bumpR s.r, tacts := t.tacts } := by
  simp [exchangeAf, State.ext_iff]

theorem exchangeAf_tacts (s : State) (h : s.Uncontended) :
    (exchangeAf s).tacts = s.tacts + 4 := by
  have e : ∀ n, contentionAt s.cfg.contention n = 0 := h
  simp [exchangeAf, State.waitMem, State.waitPort, State.portTact, e, BitVec.add_assoc]

/-- `EXX` (R192). -/
theorem exchangeSets_does (s : State) :
    let t := exchangeSets s
    t = { s with
      b := hi s.bcAlt, c := lo s.bcAlt, d := hi s.deAlt, e := lo s.deAlt, h := hi s.hlAlt, l := lo s.hlAlt,
      bcAlt := s.bc, deAlt := s.de, hlAlt := s.hl, pc := s.pc + 1, r := bumpR s.r, tacts := t.tacts } := by
  simp [exchangeSets, State.ext_iff]

theorem exchangeSets_tacts (s : State) (h : s.Uncontended) :
    (exchangeSets s).tacts = s.tacts + 4 := by
  have e : ∀ n, contentionAt s.cfg.contention n = 0 := h
  simp [exchangeSets, State.waitMem, State.waitPort, State.portTact, e, BitVec.add_assoc]

/-- The memory half of `EX (SP),rr` (R193, R194). -/
theorem exchangeTop_does (v : Word) (s : State) :
    let t := exchangeTop v s
    t = { s with
      mw := s.topWord, tacts := t.tacts, mem := t.mem } ∧
    (s.mem.wf = true → StoresWord s t s.sp v) := by
  constructor
  · simp [exchangeTop, State.ext_iff]
  · intro h
    apply storesWord_highFirst (t := ((s.readCycle s.sp).readCycle (s.sp + 1)).tick 1) <;> simp [exchangeTop, h]

theorem exchangeTop_tacts (v : Word) (s : State) (h : s.Uncontended) :
    (exchangeTop v s).tacts = s.tacts + 15 := by
  have e : ∀ n, contentionAt s.cfg.contention n = 0 := h
  simp [exchangeTop, State.waitMem, State.waitPort, State.portTact, e, BitVec.add_assoc]

/-- One block transfer (R196, R198). -/
theorem blockLoad_does (step : Word) (s : State) :
    let t := blockLoad step s
    t = { s with
      h := hi (s.hl + step), l := lo (s.hl + step), d := hi (s.de + step), e := lo (s.de + step),
      b := hi (s.bc - 1), c := lo (s.bc - 1), f := transferFlags s.f s.a (s.peek s.hl) (s.bc - 1), pc := s.pc + 2,
      r := bumpR (bumpR s.r), tacts := t.tacts, mem := t.mem } ∧
    (s.mem.wf = true → StoresByte s t s.de (s.peek s.hl)) := by
  constructor
  · simp [blockLoad, State.ext_iff]
  · intro h
    apply storesByte_of (t := s.fetchPrefixed.readCycle s.hl) <;> simp [blockLoad, h]

theorem blockLoad_tacts (step : Word) (s : State) (h : s.Uncontended) :
    (blockLoad step s).tacts = s.tacts + 16 := by
  have e : ∀ n, contentionAt s.cfg.contention n = 0 := h
  simp [blockLoad, State.waitMem, State.waitPort, State.portTact, e, BitVec.add_assoc]

/-- One block search (R200, R202). -/
theorem blockCompare_does (step : Word) (s : State) :
    let t := blockCompare step s
    t = { s with
      h := hi (s.hl + step), l := lo (s.hl + step), b := hi (s.bc - 1), c := lo (s.bc - 1), mw := s.mw + step,
      f := searchFlags s.f s.a (s.peek s.hl) (s.bc - 1), pc := s.pc + 2, r := bumpR (bumpR s.r),
      tacts := t.tacts } := by
  simp [blockCompare, State.ext_iff]

theorem blockCompare_tacts (step : Word) (s : State) (h : s.Uncontended) :
    (blockCompare step s).tacts = s.tacts + 16 := by
  have e : ∀ n, contentionAt s.cfg.contention n = 0 := h
  simp [blockCompare, State.waitMem, State.waitPort, State.portTact, e, BitVec.add_assoc]

/-- A repeated block transfer (R195): the single one, and again from the same `PC` while `BC` is not 0. -/
theorem blockLoadRepeat_does (step : Word) (s : State) :
    blockLoadRepeat step s =
      if s.bc - 1 = 0 then blockLoad step s
      else { blockLoad step s with pc := s.pc, mw := s.pc + 1, tacts := (blockLoad step s).tacts + 5 } := by
  simp only [blockLoadRepeat]
  generalize blockLoad step s = t
  rfl

/-- A repeated block search (R195): it ends on a match too. -/
theorem blockCompareRepeat_does (step : Word) (s : State) :
    blockCompareRepeat step s =
      if s.bc - 1 = 0 ∨ s.a - s.peek s.hl = 0 then blockCompare step s
      else { blockCompare step s with pc := s.pc, mw := s.pc + 1, tacts := (blockCompare step s).tacts + 5 } := by
  simp only [blockCompareRepeat]
  generalize blockCompare step s = t
  rfl

/-! ### 8-bit arithmetic, rotates, bits -/

/-- `alu[y]` (R220). -/
theorem aluWith_does (op : AluOp) (v : Byte) (s : State) :
    let t := aluWith op v s
    t = { s with
      a := (op.apply s.a v (flagC s.f)).1, f := (op.apply s.a v (flagC s.f)).2, tacts := t.tacts } := by
  simp [aluWith, State.ext_iff]

theorem aluWith_tacts (op : AluOp) (v : Byte) (s : State) (h : s.Uncontended) :
    (aluWith op v s).tacts = s.tacts + 0 := by
  have e : ∀ n, contentionAt s.cfg.contention n = 0 := h
  simp [aluWith, State.waitMem, State.waitPort, State.portTact, e, BitVec.add_assoc]

/-- A form of R220. -/
theorem aluReg_does (op : AluOp) (rr : Reg8) (s : State) :
    let t := aluReg op rr s
    t = { s with
      a := (op.apply s.a (s.r8 rr) (flagC s.f)).1, f := (op.apply s.a (s.r8 rr) (flagC s.f)).2, pc := s.pc + 1,
      r := bumpR s.r, tacts := t.tacts } := by
  simp [aluReg, aluWith, State.ext_iff]

theorem aluReg_tacts (op : AluOp) (rr : Reg8) (s : State) (h : s.Uncontended) :
    (aluReg op rr s).tacts = s.tacts + 4 := by
  have e : ∀ n, contentionAt s.cfg.contention n = 0 := h
  simp [aluReg, aluWith, State.waitMem, State.waitPort, State.portTact, e, BitVec.add_assoc]

/-- A form of R220. -/
theorem aluImm_does (op : AluOp) (n : Byte) (s : State) :
    let t := aluImm op n s
    t = { s with
      a := (op.apply s.a n (flagC s.f)).1, f := (op.apply s.a n (flagC s.f)).2, pc := s.pc + 2, r := bumpR s.r,
      tacts := t.tacts } := by
  simp [aluImm, aluWith, State.ext_iff]

theorem aluImm_tacts (op : AluOp) (n : Byte) (s : State) (h : s.Uncontended) :
    (aluImm op n s).tacts = s.tacts + 7 := by
  have e : ∀ n, contentionAt s.cfg.contention n = 0 := h
  simp [aluImm, aluWith, State.waitMem, State.waitPort, State.portTact, e, BitVec.add_assoc]

/-- A form of R220. -/
theorem aluMemHl_does (op : AluOp) (s : State) :
    let t := aluMemHl op s
    t = { s with
      a := (op.apply s.a (s.peek s.hl) (flagC s.f)).1, f := (op.apply s.a (s.peek s.hl) (flagC s.f)).2,
      pc := s.pc + 1, r := bumpR s.r, tacts := t.tacts } := by
  simp [aluMemHl, aluWith, State.ext_iff]

theorem aluMemHl_tacts (op : AluOp) (s : State) (h : s.Uncontended) :
    (aluMemHl op s).tacts = s.tacts + 7 := by
  have e : ∀ n, contentionAt s.cfg.contention n = 0 := h
  simp [aluMemHl, aluWith, State.waitMem, State.waitPort, State.portTact, e, BitVec.add_assoc]

/-- A form of R220. -/
theorem aluMemIdx_does (op : AluOp) (k : Idx) (d : Byte) (s : State) :
    let t := aluMemIdx op k d s
    t = { s with
      a := (op.apply s.a (s.peek (s.idxAddr k d)) (flagC s.f)).1,
      f := (op.apply s.a (s.peek (s.idxAddr k d)) (flagC s.f)).2, mw := s.idxAddr k d, pc := s.pc + 3,
      r := bumpR (bumpR s.r), tacts := t.tacts } := by
  simp [aluMemIdx, aluWith, State.ext_iff]

theorem aluMemIdx_tacts (op : AluOp) (k : Idx) (d : Byte) (s : State) (h : s.Uncontended) :
    (aluMemIdx op k d s).tacts = s.tacts + 19 := by
  have e : ∀ n, contentionAt s.cfg.contention n = 0 := h
  simp [aluMemIdx, aluWith, State.waitMem, State.waitPort, State.portTact, e, BitVec.add_assoc]

/-- A form of R220. -/
theorem aluHalf_does (op : AluOp) (k : Idx) (rx : RegX) (s : State) :
    let t := aluHalf op k rx s
    t = { s with
      a := (op.apply s.a (s.rx k rx) (flagC s.f)).1, f := (op.apply s.a (s.rx k rx) (flagC s.f)).2, pc := s.pc + 2,
      r := bumpR (bumpR s.r), tacts := t.tacts } := by
  simp [aluHalf, aluWith, State.ext_iff]

theorem aluHalf_tacts (op : AluOp) (k : Idx) (rx : RegX) (s : State) (h : s.Uncontended) :
    (aluHalf op k rx s).tacts = s.tacts + 8 := by
  have e : ∀ n, contentionAt s.cfg.contention n = 0 := h
  simp [aluHalf, aluWith, State.waitMem, State.waitPort, State.portTact, e, BitVec.add_assoc]

/-- `INC r` (R229). -/
theorem incReg_does (rr : Reg8) (s : State) :
    let t := incReg rr s
    t = { s.setR8 rr (inc8 s.f (s.r8 rr)).1 with
      f := (inc8 s.f (s.r8 rr)).2, pc := s.pc + 1, r := bumpR s.r, tacts := t.tacts } := by
  simp [incReg, State.ext_iff]

theorem incReg_tacts (rr : Reg8) (s : State) (h : s.Uncontended) :
    (incReg rr s).tacts = s.tacts + 4 := by
  have e : ∀ n, contentionAt s.cfg.contention n = 0 := h
  simp [incReg, State.waitMem, State.waitPort, State.portTact, e, BitVec.add_assoc]

/-- `INC XYH` and `INC XYL` (R229). -/
theorem incHalf_does (k : Idx) (rx : RegX) (s : State) :
    let t := incHalf k rx s
    t = { s.setRx k rx (inc8 s.f (s.rx k rx)).1 with
      f := (inc8 s.f (s.rx k rx)).2, pc := s.pc + 2, r := bumpR (bumpR s.r), tacts := t.tacts } := by
  cases k <;> cases rx <;> simp [incHalf, State.setRx, State.ext_iff]

theorem incHalf_tacts (k : Idx) (rx : RegX) (s : State) (h : s.Uncontended) :
    (incHalf k rx s).tacts = s.tacts + 8 := by
  have e : ∀ n, contentionAt s.cfg.contention n = 0 := h
  simp [incHalf, State.waitMem, State.waitPort, State.portTact, e, BitVec.add_assoc]

/-- `DEC r` (R232). -/
theorem decReg_does (rr : Reg8) (s : State) :
    let t := decReg rr s
    t = { s.setR8 rr (dec8 s.f (s.r8 rr)).1 with
      f := (dec8 s.f (s.r8 rr)).2, pc := s.pc + 1, r := bumpR s.r, tacts := t.tacts } := by
  simp [decReg, State.ext_iff]

theorem decReg_tacts (rr : Reg8) (s : State) (h : s.Uncontended) :
    (decReg rr s).tacts = s.tacts + 4 := by
  have e : ∀ n, contentionAt s.cfg.contention n = 0 := h
  simp [decReg, State.waitMem, State.waitPort, State.portTact, e, BitVec.add_assoc]

/-- `DEC XYH` and `DEC XYL` (R232). -/
theorem decHalf_does (k : Idx) (rx : RegX) (s : State) :
    let t := decHalf k rx s
    t = { s.setRx k rx (dec8 s.f (s.rx k rx)).1 with
      f := (dec8 s.f (s.rx k rx)).2, pc := s.pc + 2, r := bumpR (bumpR s.r), tacts := t.tacts } := by
  cases k <;> cases rx <;> simp [decHalf, State.setRx, State.ext_iff]

theorem decHalf_tacts (k : Idx) (rx : RegX) (s : State) (h : s.Uncontended) :
    (decHalf k rx s).tacts = s.tacts + 8 := by
  have e : ∀ n, contentionAt s.cfg.contention n = 0 := h
  simp [decHalf, State.waitMem, State.waitPort, State.portTact, e, BitVec.add_assoc]

/-- An operation on `A` and `F` (R235, R236, R238, R239). -/
theorem accFlags_does (g : Byte → Byte → Byte × Byte) (s : State) :
    let t := accFlags g s
    t = { s with
      a := (g s.a s.f).1, f := (g s.a s.f).2, pc := s.pc + 1, r := bumpR s.r, tacts := t.tacts } := by
  simp [accFlags, State.ext_iff]

theorem accFlags_tacts (g : Byte → Byte → Byte × Byte) (s : State) (h : s.Uncontended) :
    (accFlags g s).tacts = s.tacts + 4 := by
  have e : ∀ n, contentionAt s.cfg.contention n = 0 := h
  simp [accFlags, State.waitMem, State.waitPort, State.portTact, e, BitVec.add_assoc]

/-- `NEG` (R237). -/
theorem negate_does (s : State) :
    let t := negate s
    t = { s with
      a := (subWithBorrow 0 s.a false).1, f := (subWithBorrow 0 s.a false).2, pc := s.pc + 2,
      r := bumpR (bumpR s.r), tacts := t.tacts } := by
  simp [negate, State.ext_iff]

theorem negate_tacts (s : State) (h : s.Uncontended) :
    (negate s).tacts = s.tacts + 8 := by
  have e : ∀ n, contentionAt s.cfg.contention n = 0 := h
  simp [negate, State.waitMem, State.waitPort, State.portTact, e, BitVec.add_assoc]

/-- Read, change and write back (R230, R284, R314). -/
theorem modifyMem_does (x : Word) (g : Byte → Byte × Byte) (s : State) :
    let t := modifyMem x g s
    t = { s with
      f := (g (s.peek x)).2, tacts := t.tacts, mem := t.mem } ∧
    (s.mem.wf = true → StoresByte s t x (g (s.peek x)).1) := by
  constructor
  · simp [modifyMem, State.ext_iff]
  · intro h
    apply storesByte_of (t := (s.readCycle x).tick 1) <;> simp [modifyMem, h]

theorem modifyMem_tacts (x : Word) (g : Byte → Byte × Byte) (s : State) (h : s.Uncontended) :
    (modifyMem x g s).tacts = s.tacts + 7 := by
  have e : ∀ n, contentionAt s.cfg.contention n = 0 := h
  simp [modifyMem, State.waitMem, State.waitPort, State.portTact, e, BitVec.add_assoc]

/-- The indexed bit forms that write memory (R104). -/
theorem modifyIdxCb_does (k : Idx) (d : Byte) (g : Byte → Byte × Byte) (s : State) :
    let t := modifyIdxCb k d g s
    t = { s with
      f := (g (s.peek (s.idxAddr k d))).2, mw := s.idxAddr k d, pc := s.pc + 4, r := bumpR (bumpR s.r),
      tacts := t.tacts, mem := t.mem } ∧
    (s.mem.wf = true → StoresByte s t (s.idxAddr k d) (g (s.peek (s.idxAddr k d))).1) := by
  constructor
  · simp [modifyIdxCb, modifyMem, State.ext_iff]
  · intro h
    apply storesByte_of (t := (s.fetchIdxCb.readCycle (s.idxAddr k d)).tick 1) <;> simp [modifyIdxCb, modifyMem, h]

theorem modifyIdxCb_tacts (k : Idx) (d : Byte) (g : Byte → Byte × Byte) (s : State) (h : s.Uncontended) :
    (modifyIdxCb k d g s).tacts = s.tacts + 23 := by
  have e : ∀ n, contentionAt s.cfg.contention n = 0 := h
  simp [modifyIdxCb, modifyMem, State.waitMem, State.waitPort, State.portTact, e, BitVec.add_assoc]

/-- The same with the copy to a register. -/
theorem modifyIdxCbCopy_does (k : Idx) (d : Byte) (g : Byte → Byte × Byte) (rr : Reg8) (s : State) :
    let t := modifyIdxCbCopy k d g rr s
    t = { s.setR8 rr (g (s.peek (s.idxAddr k d))).1 with
      f := (g (s.peek (s.idxAddr k d))).2, mw := s.idxAddr k d, pc := s.pc + 4, r := bumpR (bumpR s.r),
      tacts := t.tacts, mem := t.mem } ∧
    (s.mem.wf = true → StoresByte s t (s.idxAddr k d) (g (s.peek (s.idxAddr k d))).1) := by
  constructor
  · simp [modifyIdxCbCopy, modifyMem, modifyIdxCb, State.ext_iff]
  · intro h
    apply storesByte_of (t := (s.fetchIdxCb.readCycle (s.idxAddr k d)).tick 1) <;>
      simp [modifyIdxCbCopy, modifyMem, modifyIdxCb, h]

theorem modifyIdxCbCopy_tacts (k : Idx) (d : Byte) (g : Byte → Byte × Byte) (rr : Reg8) (s : State)
    (h : s.Uncontended) :
    (modifyIdxCbCopy k d g rr s).tacts = s.tacts + 23 := by
  have e : ∀ n, contentionAt s.cfg.contention n = 0 := h
  simp [modifyIdxCbCopy, modifyMem, modifyIdxCb, State.waitMem, State.waitPort, State.portTact, e, BitVec.add_assoc]

/-- An accumulator rotate (R280 to R283). -/
theorem rotateAcc_does (op : RotOp) (s : State) :
    let t := rotateAcc op s
    t = { s with
      a := (rotA8 op s.a s.f).1, f := (rotA8 op s.a s.f).2, pc := s.pc + 1, r := bumpR s.r, tacts := t.tacts } := by
  simp [rotateAcc, State.ext_iff]

theorem rotateAcc_tacts (op : RotOp) (s : State) (h : s.Uncontended) :
    (rotateAcc op s).tacts = s.tacts + 4 := by
  have e : ∀ n, contentionAt s.cfg.contention n = 0 := h
  simp [rotateAcc, State.waitMem, State.waitPort, State.portTact, e, BitVec.add_assoc]

/-- A CB rotate of a register (R284). -/
theorem rotateReg_does (op : RotOp) (rr : Reg8) (s : State) :
    let t := rotateReg op rr s
    t = { s.setR8 rr (rot8 op s.f (s.r8 rr)).1 with
      f := (rot8 op s.f (s.r8 rr)).2, pc := s.pc + 2, r := bumpR (bumpR s.r), tacts := t.tacts } := by
  simp [rotateReg, State.ext_iff]

theorem rotateReg_tacts (op : RotOp) (rr : Reg8) (s : State) (h : s.Uncontended) :
    (rotateReg op rr s).tacts = s.tacts + 8 := by
  have e : ∀ n, contentionAt s.cfg.contention n = 0 := h
  simp [rotateReg, State.waitMem, State.waitPort, State.portTact, e, BitVec.add_assoc]

/-- `RLD` and `RRD` (R293, R294). -/
theorem rotateDigit_does (g : Byte → Byte → Byte × Byte) (s : State) :
    let t := rotateDigit g s
    t = { s with
      a := (g s.a (s.peek s.hl)).1, f := parityFlags s.f (g s.a (s.peek s.hl)).1, mw := s.hl + 1, pc := s.pc + 2,
      r := bumpR (bumpR s.r), tacts := t.tacts, mem := t.mem } ∧
    (s.mem.wf = true → StoresByte s t s.hl (g s.a (s.peek s.hl)).2) := by
  constructor
  · simp [rotateDigit, State.ext_iff]
  · intro h
    apply storesByte_of (t := (s.fetchPrefixed.readCycle s.hl).tick 4) <;> simp [rotateDigit, h]

theorem rotateDigit_tacts (g : Byte → Byte → Byte × Byte) (s : State) (h : s.Uncontended) :
    (rotateDigit g s).tacts = s.tacts + 18 := by
  have e : ∀ n, contentionAt s.cfg.contention n = 0 := h
  simp [rotateDigit, State.waitMem, State.waitPort, State.portTact, e, BitVec.add_assoc]

/-- `BIT b,r` (R310). -/
theorem bitReg_does (b : BitVec 3) (rr : Reg8) (s : State) :
    let t := bitReg b rr s
    t = { s with
      f := bitFlags s.f b (s.r8 rr) (s.r8 rr), pc := s.pc + 2, r := bumpR (bumpR s.r), tacts := t.tacts } := by
  simp [bitReg, State.ext_iff]

theorem bitReg_tacts (b : BitVec 3) (rr : Reg8) (s : State) (h : s.Uncontended) :
    (bitReg b rr s).tacts = s.tacts + 8 := by
  have e : ∀ n, contentionAt s.cfg.contention n = 0 := h
  simp [bitReg, State.waitMem, State.waitPort, State.portTact, e, BitVec.add_assoc]

/-- `BIT b,(HL)` (R311). -/
theorem bitMemHl_does (b : BitVec 3) (s : State) :
    let t := bitMemHl b s
    t = { s with
      f := bitFlags s.f b (s.peek s.hl) (hi s.mw), pc := s.pc + 2, r := bumpR (bumpR s.r), tacts := t.tacts } := by
  simp [bitMemHl, State.ext_iff]

theorem bitMemHl_tacts (b : BitVec 3) (s : State) (h : s.Uncontended) :
    (bitMemHl b s).tacts = s.tacts + 12 := by
  have e : ∀ n, contentionAt s.cfg.contention n = 0 := h
  simp [bitMemHl, State.waitMem, State.waitPort, State.portTact, e, BitVec.add_assoc]

/-- `BIT b,(XY+d)` (R312). -/
theorem bitMemIdx_does (k : Idx) (b : BitVec 3) (d : Byte) (s : State) :
    let t := bitMemIdx k b d s
    t = { s with
      f := bitFlags s.f b (s.peek (s.idxAddr k d)) (hi (s.idxAddr k d)), mw := s.idxAddr k d, pc := s.pc + 4,
      r := bumpR (bumpR s.r), tacts := t.tacts } := by
  simp [bitMemIdx, State.ext_iff]

theorem bitMemIdx_tacts (k : Idx) (b : BitVec 3) (d : Byte) (s : State) (h : s.Uncontended) :
    (bitMemIdx k b d s).tacts = s.tacts + 20 := by
  have e : ∀ n, contentionAt s.cfg.contention n = 0 := h
  simp [bitMemIdx, State.waitMem, State.waitPort, State.portTact, e, BitVec.add_assoc]

/-! ### 16-bit arithmetic -/

/-- R260. -/
theorem addHl_does (ss : Pair) (s : State) :
    let t := addHl ss s
    t = { s with
      h := hi (add16 s.f s.hl (s.pair ss)).1, l := lo (add16 s.f s.hl (s.pair ss)).1,
      f := (add16 s.f s.hl (s.pair ss)).2, mw := s.hl + 1, pc := s.pc + 1, r := bumpR s.r, tacts := t.tacts } := by
  simp [addHl, State.ext_iff]

theorem addHl_tacts (ss : Pair) (s : State) (h : s.Uncontended) :
    (addHl ss s).tacts = s.tacts + 11 := by
  have e : ∀ n, contentionAt s.cfg.contention n = 0 := h
  simp [addHl, State.waitMem, State.waitPort, State.portTact, e, BitVec.add_assoc]

/-- R261. -/
theorem adcHl_does (ss : Pair) (s : State) :
    let t := adcHl ss s
    t = { s with
      h := hi (adc16 s.f s.hl (s.pair ss)).1, l := lo (adc16 s.f s.hl (s.pair ss)).1,
      f := (adc16 s.f s.hl (s.pair ss)).2, mw := s.hl + 1, pc := s.pc + 2, r := bumpR (bumpR s.r),
      tacts := t.tacts } := by
  simp [adcHl, State.ext_iff]

theorem adcHl_tacts (ss : Pair) (s : State) (h : s.Uncontended) :
    (adcHl ss s).tacts = s.tacts + 15 := by
  have e : ∀ n, contentionAt s.cfg.contention n = 0 := h
  simp [adcHl, State.waitMem, State.waitPort, State.portTact, e, BitVec.add_assoc]

/-- R262. -/
theorem sbcHl_does (ss : Pair) (s : State) :
    let t := sbcHl ss s
    t = { s with
      h := hi (sbc16 s.f s.hl (s.pair ss)).1, l := lo (sbc16 s.f s.hl (s.pair ss)).1,
      f := (sbc16 s.f s.hl (s.pair ss)).2, mw := s.hl + 1, pc := s.pc + 2, r := bumpR (bumpR s.r),
      tacts := t.tacts } := by
  simp [sbcHl, State.ext_iff]

theorem sbcHl_tacts (ss : Pair) (s : State) (h : s.Uncontended) :
    (sbcHl ss s).tacts = s.tacts + 15 := by
  have e : ∀ n, contentionAt s.cfg.contention n = 0 := h
  simp [sbcHl, State.waitMem, State.waitPort, State.portTact, e, BitVec.add_assoc]

/-- `ADD XY,pp` (R263). -/
theorem addXy_does (k : Idx) (pp : PairX) (s : State) :
    let t := addXy k pp s
    t = { s.setXy k (add16 s.f (s.xy k) (s.pairX k pp)).1 with
      f := (add16 s.f (s.xy k) (s.pairX k pp)).2, mw := s.xy k + 1, pc := s.pc + 2, r := bumpR (bumpR s.r),
      tacts := t.tacts } := by
  simp [addXy, State.ext_iff]

theorem addXy_tacts (k : Idx) (pp : PairX) (s : State) (h : s.Uncontended) :
    (addXy k pp s).tacts = s.tacts + 15 := by
  have e : ∀ n, contentionAt s.cfg.contention n = 0 := h
  simp [addXy, State.waitMem, State.waitPort, State.portTact, e, BitVec.add_assoc]

/-! ### Control -/

/-- The taken part of a relative jump (R332). -/
theorem State.jumpRelative_does (s : State) (e : Byte) :
    let t := s.jumpRelative e
    t = { s with
      pc := s.pc + sext16 e, mw := s.pc + sext16 e, tacts := t.tacts } := by
  simp [State.jumpRelative, State.ext_iff]

theorem State.jumpRelative_tacts (s : State) (e : Byte) (h : s.Uncontended) :
    (s.jumpRelative e).tacts = s.tacts + 5 := by
  have e : ∀ n, contentionAt s.cfg.contention n = 0 := h
  simp [State.jumpRelative, State.waitMem, State.waitPort, State.portTact, e, BitVec.add_assoc]

/-- The returns (R339). -/
theorem State.returnFromStack_does (s : State) :
    let t := s.returnFromStack
    t = { s with
      sp := s.sp + 2, pc := s.topWord, mw := s.topWord, tacts := t.tacts } := by
  simp [State.returnFromStack, State.popCycles, State.ext_iff]

theorem State.returnFromStack_tacts (s : State) (h : s.Uncontended) :
    (s.returnFromStack).tacts = s.tacts + 6 := by
  have e : ∀ n, contentionAt s.cfg.contention n = 0 := h
  simp [State.returnFromStack, State.popCycles, State.waitMem, State.waitPort, State.portTact, e, BitVec.add_assoc]

/-- A call (R337, R343). -/
theorem callTo_does (x : Word) (s : State) :
    let t := callTo x s
    t = { s with
      sp := s.sp - 2, pc := x, mw := x, tacts := t.tacts, mem := t.mem } ∧
    (s.mem.wf = true → StoresWord s t (s.sp - 2) s.pc) := by
  constructor
  · simp [callTo, State.push, State.ext_iff]
  · intro h
    apply storesWord_push (t := s.tick 1) <;> simp [callTo, State.push, h]

theorem callTo_tacts (x : Word) (s : State) (h : s.Uncontended) :
    (callTo x s).tacts = s.tacts + 7 := by
  have e : ∀ n, contentionAt s.cfg.contention n = 0 := h
  simp [callTo, State.push, State.waitMem, State.waitPort, State.portTact, e, BitVec.add_assoc]

/-- RETI and RETN (R341, R342). -/
theorem returnFromInterrupt_does (s : State) :
    let t := returnFromInterrupt s
    t = { s with
      sp := s.sp + 2, pc := s.topWord, mw := s.topWord, r := bumpR (bumpR s.r), iff1 := s.iff2,
      tacts := t.tacts } := by
  simp [returnFromInterrupt, State.returnFromStack, State.popCycles, State.topWord, State.ext_iff]

theorem returnFromInterrupt_tacts (s : State) (h : s.Uncontended) :
    (returnFromInterrupt s).tacts = s.tacts + 14 := by
  have e : ∀ n, contentionAt s.cfg.contention n = 0 := h
  simp [returnFromInterrupt, State.returnFromStack, State.popCycles, State.topWord, State.waitMem, State.waitPort,
    State.portTact, e, BitVec.add_assoc]

/-! ### Ports -/

/-- `OUT (n),A` (R363). -/
theorem portOutImm_does (n : Byte) (s : State) :
    let t := portOutImm n s
    t = { s with
      mw := mkWord s.a (n + 1), pc := s.pc + 2, r := bumpR s.r,
      ports := s.ports ++ [.output (mkWord s.a n) s.a (s.fetchOpcode.fetchByte.portTact (mkWord s.a n))],
      tacts := t.tacts } := by
  simp [portOutImm, State.ext_iff]

theorem portOutImm_tacts (n : Byte) (s : State) (h : s.Uncontended) :
    (portOutImm n s).tacts = s.tacts + 11 := by
  have e : ∀ n, contentionAt s.cfg.contention n = 0 := h
  simp [portOutImm, State.waitMem, State.waitPort, State.portTact, e, BitVec.add_assoc]

/-- `IN A,(n)` (R360). -/
theorem portInImm_does (n : Byte) (s : State) :
    let t := portInImm n s
    t = { s with
      a := s.fetchOpcode.fetchByte.portIn (mkWord s.a n), mw := mkWord s.a n + 1, pc := s.pc + 2, r := bumpR s.r,
      ports := t.ports, tacts := t.tacts } := by
  simp [portInImm, State.ext_iff]

theorem portInImm_tacts (n : Byte) (s : State) (h : s.Uncontended) :
    (portInImm n s).tacts = s.tacts + 11 := by
  have e : ∀ n, contentionAt s.cfg.contention n = 0 := h
  simp [portInImm, State.waitMem, State.waitPort, State.portTact, e, BitVec.add_assoc]

/-- `IN (C)` (R362). -/
theorem portInFlags_does (s : State) :
    let t := portInFlags s
    t = { s with
      f := parityFlags s.f (s.fetchPrefixed.portIn s.bc), mw := s.bc + 1, pc := s.pc + 2, r := bumpR (bumpR s.r),
      ports := t.ports, tacts := t.tacts } := by
  simp [portInFlags, State.ext_iff]

theorem portInFlags_tacts (s : State) (h : s.Uncontended) :
    (portInFlags s).tacts = s.tacts + 12 := by
  have e : ∀ n, contentionAt s.cfg.contention n = 0 := h
  simp [portInFlags, State.waitMem, State.waitPort, State.portTact, e, BitVec.add_assoc]

/-- `IN r,(C)` (R361). -/
theorem portInReg_does (rr : Reg8) (s : State) :
    let t := portInReg rr s
    t = { s.setR8 rr (s.fetchPrefixed.portIn s.bc) with
      f := parityFlags s.f (s.fetchPrefixed.portIn s.bc), mw := s.bc + 1, pc := s.pc + 2, r := bumpR (bumpR s.r),
      ports := t.ports, tacts := t.tacts } := by
  simp [portInReg, State.ext_iff]

theorem portInReg_tacts (rr : Reg8) (s : State) (h : s.Uncontended) :
    (portInReg rr s).tacts = s.tacts + 12 := by
  have e : ∀ n, contentionAt s.cfg.contention n = 0 := h
  simp [portInReg, State.waitMem, State.waitPort, State.portTact, e, BitVec.add_assoc]

/-- `OUT (C),r` and `OUT (C),0` (R364, R365). -/
theorem portOutBc_does (v : Byte) (s : State) :
    let t := portOutBc v s
    t = { s with
      mw := s.bc + 1, pc := s.pc + 2, r := bumpR (bumpR s.r),
      ports := s.ports ++ [.output s.bc v (s.fetchPrefixed.portTact s.bc)], tacts := t.tacts } := by
  simp [portOutBc, State.ext_iff]

theorem portOutBc_tacts (v : Byte) (s : State) (h : s.Uncontended) :
    (portOutBc v s).tacts = s.tacts + 12 := by
  have e : ∀ n, contentionAt s.cfg.contention n = 0 := h
  simp [portOutBc, State.waitMem, State.waitPort, State.portTact, e, BitVec.add_assoc]

/-- One block input (R367, R369). -/
theorem blockIn_does (step : Word) (s : State) :
    let t := blockIn step s
    t = { s with
      h := hi (s.hl + step), l := lo (s.hl + step), b := s.b - 1, f := t.f, mw := s.bc + step, pc := s.pc + 2,
      r := bumpR (bumpR s.r), ports := t.ports, tacts := t.tacts, mem := t.mem } ∧
    (s.mem.wf = true → StoresByte s t s.hl ((s.fetchPrefixed.tick 1).portIn s.bc)) := by
  constructor
  · simp [blockIn, State.ext_iff]
  · intro h
    apply storesByte_of (t := (s.fetchPrefixed.tick 1).portInCycle s.bc) <;> simp [blockIn, h]

theorem blockIn_tacts (step : Word) (s : State) (h : s.Uncontended) :
    (blockIn step s).tacts = s.tacts + 16 := by
  have e : ∀ n, contentionAt s.cfg.contention n = 0 := h
  simp [blockIn, State.waitMem, State.waitPort, State.portTact, e, BitVec.add_assoc]

/-- One block output (R371, R373). -/
theorem blockOut_does (step : Word) (s : State) :
    let t := blockOut step s
    t = { s with
      h := hi (s.hl + step), l := lo (s.hl + step), b := s.b - 1, f := t.f, mw := mkWord (s.b - 1) s.c + step,
      pc := s.pc + 2, r := bumpR (bumpR s.r), ports := t.ports, tacts := t.tacts } := by
  simp [blockOut, State.ext_iff]

theorem blockOut_tacts (step : Word) (s : State) (h : s.Uncontended) :
    (blockOut step s).tacts = s.tacts + 16 := by
  have e : ∀ n, contentionAt s.cfg.contention n = 0 := h
  simp [blockOut, State.waitMem, State.waitPort, State.portTact, e, BitVec.add_assoc]

/-! ### Halt and interrupts -/

/-- HALT after its fetch (R381). -/
theorem enterHalt_does (s : State) :
    let t := enterHalt s
    t = { s with
      halted := true, pc := if s.cfg.haltPc = .self then s.pc - 1 else s.pc, tacts := t.tacts } := by
  simp [enterHalt, State.ext_iff]

theorem enterHalt_tacts (s : State) (h : s.Uncontended) :
    (enterHalt s).tacts = s.tacts + 0 := by
  have e : ∀ n, contentionAt s.cfg.contention n = 0 := h
  simp [enterHalt, State.waitMem, State.waitPort, State.portTact, e, BitVec.add_assoc]

/-- What taking an interrupt does (R410, R414). -/
theorem State.takeInterrupt_does (s : State) (ack : Nat) :
    let t := s.takeInterrupt ack
    t = { s with
      halted := false, pc := returnAddress s, r := bumpR s.r, sp := s.sp - 2, tacts := t.tacts, mem := t.mem } ∧
    (s.mem.wf = true → StoresWord s t (s.sp - 2) (returnAddress s)) := by
  constructor
  · simp [State.takeInterrupt, State.push, returnAddress, State.ext_iff]
  · intro h
    apply storesWord_push (t := (s.leaveHalt.refresh).tick ack) <;>
      simp [State.takeInterrupt, State.push, returnAddress, h]

theorem State.takeInterrupt_tacts (s : State) (ack : Nat) (h : s.Uncontended) :
    (s.takeInterrupt ack).tacts = s.tacts + (BitVec.ofNat 64 ack + 6) := by
  have e : ∀ n, contentionAt s.cfg.contention n = 0 := h
  simp [State.takeInterrupt, State.push, returnAddress, State.waitMem, State.waitPort, State.portTact, e,
    BitVec.add_assoc]

end Sys2Proof.Machine
end

