-- ==== Sys2Proof/Laws/PerInstr.lean ====
section
/-! SUPPORT. For every instruction: the size the decoder reports is 1 to 4 bytes and lies within its encoding
(30_encoding.md R90, R110). -/

namespace Sys2Proof.Laws.Encoding

/-- The size of a well-formed instruction is 1 to 4 bytes, and its encoding has at least that many. -/
def Statement (j : Instr) : Prop := j.wf = true → 1 ≤ j.size ∧ j.size ≤ 4 ∧ j.size ≤ j.encode.length

theorem ofLengths {j : Instr} (h : (Nat.ble 1 j.size && Nat.ble j.size 4 && Nat.ble j.size j.encode.length) = true) :
    Statement j := by
  simp only [Bool.and_eq_true, Nat.ble_eq] at h
  exact fun _ => ⟨h.1.1, h.1.2, h.2⟩

/-- What an ignored prefix stands before is at most three bytes long. -/
theorem base_short (j : Instr) (h : (j.prefixFree && j.wf) = true) : j.encode.length ≤ 3 := by
  cases j <;> first
    | exact Nat.le_of_ble_eq_true rfl
    | exact absurd h (by simp [Instr.prefixFree])

theorem djnz (e : Byte) : Statement (.djnz e) := ofLengths rfl

theorem jr (e : Byte) : Statement (.jr e) := ofLengths rfl

theorem jrCc (cc : Cond) (e : Byte) : Statement (.jrCc cc e) := ofLengths rfl

theorem ldDdNn (dd : Pair) (nn : Word) : Statement (.ldDdNn dd nn) := ofLengths rfl

theorem addHlSs (ss : Pair) : Statement (.addHlSs ss) := ofLengths rfl

theorem ldMemNnHl (nn : Word) : Statement (.ldMemNnHl nn) := ofLengths rfl

theorem ldMemNnA (nn : Word) : Statement (.ldMemNnA nn) := ofLengths rfl

theorem ldHlMemNn (nn : Word) : Statement (.ldHlMemNn nn) := ofLengths rfl

theorem ldAMemNn (nn : Word) : Statement (.ldAMemNn nn) := ofLengths rfl

theorem incSs (ss : Pair) : Statement (.incSs ss) := ofLengths rfl

theorem decSs (ss : Pair) : Statement (.decSs ss) := ofLengths rfl

theorem ldMemHlN (n : Byte) : Statement (.ldMemHlN n) := ofLengths rfl

theorem incR (rr : Reg8) : Statement (.incR rr) := ofLengths rfl

theorem decR (rr : Reg8) : Statement (.decR rr) := ofLengths rfl

theorem ldRN (rr : Reg8) (n : Byte) : Statement (.ldRN rr n) := ofLengths rfl

theorem ldMemHlR (rr : Reg8) : Statement (.ldMemHlR rr) := ofLengths rfl

theorem ldRMemHl (rr : Reg8) : Statement (.ldRMemHl rr) := ofLengths rfl

theorem ldRR (rd : Reg8) (rs : Reg8) : Statement (.ldRR rd rs) := ofLengths rfl

theorem addAR (rr : Reg8) : Statement (.addAR rr) := ofLengths rfl

theorem adcAR (rr : Reg8) : Statement (.adcAR rr) := ofLengths rfl

theorem subR (rr : Reg8) : Statement (.subR rr) := ofLengths rfl

theorem sbcAR (rr : Reg8) : Statement (.sbcAR rr) := ofLengths rfl

theorem andR (rr : Reg8) : Statement (.andR rr) := ofLengths rfl

theorem xorR (rr : Reg8) : Statement (.xorR rr) := ofLengths rfl

theorem orR (rr : Reg8) : Statement (.orR rr) := ofLengths rfl

theorem cpR (rr : Reg8) : Statement (.cpR rr) := ofLengths rfl

theorem retCc (cc : Cond) : Statement (.retCc cc) := ofLengths rfl

theorem popQq (qq : PairQ) : Statement (.popQq qq) := ofLengths rfl

theorem jpCcNn (cc : Cond) (nn : Word) : Statement (.jpCcNn cc nn) := ofLengths rfl

theorem jpNn (nn : Word) : Statement (.jpNn nn) := ofLengths rfl

theorem outNA (n : Byte) : Statement (.outNA n) := ofLengths rfl

theorem inAN (n : Byte) : Statement (.inAN n) := ofLengths rfl

theorem callCcNn (cc : Cond) (nn : Word) : Statement (.callCcNn cc nn) := ofLengths rfl

theorem pushQq (qq : PairQ) : Statement (.pushQq qq) := ofLengths rfl

theorem callNn (nn : Word) : Statement (.callNn nn) := ofLengths rfl

theorem addAN (n : Byte) : Statement (.addAN n) := ofLengths rfl

theorem adcAN (n : Byte) : Statement (.adcAN n) := ofLengths rfl

theorem subN (n : Byte) : Statement (.subN n) := ofLengths rfl

theorem sbcAN (n : Byte) : Statement (.sbcAN n) := ofLengths rfl

theorem andN (n : Byte) : Statement (.andN n) := ofLengths rfl

theorem xorN (n : Byte) : Statement (.xorN n) := ofLengths rfl

theorem orN (n : Byte) : Statement (.orN n) := ofLengths rfl

theorem cpN (n : Byte) : Statement (.cpN n) := ofLengths rfl

theorem rstP (t : BitVec 3) : Statement (.rstP t) := ofLengths rfl

theorem rlcR (rr : Reg8) : Statement (.rlcR rr) := ofLengths rfl

theorem rrcR (rr : Reg8) : Statement (.rrcR rr) := ofLengths rfl

theorem rlR (rr : Reg8) : Statement (.rlR rr) := ofLengths rfl

theorem rrR (rr : Reg8) : Statement (.rrR rr) := ofLengths rfl

theorem slaR (rr : Reg8) : Statement (.slaR rr) := ofLengths rfl

theorem sraR (rr : Reg8) : Statement (.sraR rr) := ofLengths rfl

theorem sllR (rr : Reg8) : Statement (.sllR rr) := ofLengths rfl

theorem srlR (rr : Reg8) : Statement (.srlR rr) := ofLengths rfl

theorem bitMemHl (b : BitVec 3) : Statement (.bitMemHl b) := ofLengths rfl

theorem bitR (b : BitVec 3) (rr : Reg8) : Statement (.bitR b rr) := ofLengths rfl

theorem resMemHl (b : BitVec 3) : Statement (.resMemHl b) := ofLengths rfl

theorem resR (b : BitVec 3) (rr : Reg8) : Statement (.resR b rr) := ofLengths rfl

theorem setMemHl (b : BitVec 3) : Statement (.setMemHl b) := ofLengths rfl

theorem setR (b : BitVec 3) (rr : Reg8) : Statement (.setR b rr) := ofLengths rfl

theorem inRC (rr : Reg8) : Statement (.inRC rr) := ofLengths rfl

theorem outCR (rr : Reg8) : Statement (.outCR rr) := ofLengths rfl

theorem sbcHlSs (ss : Pair) : Statement (.sbcHlSs ss) := ofLengths rfl

theorem adcHlSs (ss : Pair) : Statement (.adcHlSs ss) := ofLengths rfl

theorem ldMemNnDd (dd : Pair) (nn : Word) : Statement (.ldMemNnDd dd nn) := ofLengths rfl

theorem ldDdMemNn (dd : Pair) (nn : Word) : Statement (.ldDdMemNn dd nn) := ofLengths rfl

theorem neg (copy : BitVec 3) : Statement (.neg copy) := ofLengths rfl

theorem retn (copy : BitVec 3) : Statement (.retn copy) := ofLengths rfl

theorem im0 (b5 : Bool) (b3 : Bool) : Statement (.im0 b5 b3) := ofLengths rfl

theorem im1 (b5 : Bool) : Statement (.im1 b5) := ofLengths rfl

theorem im2 (b5 : Bool) : Statement (.im2 b5) := ofLengths rfl

theorem nopEd (op : Byte) : Statement (.nopEd op) := ofLengths rfl

theorem ldIxNn (nn : Word) : Statement (.ldIxNn nn) := ofLengths rfl

theorem ldMemNnIx (nn : Word) : Statement (.ldMemNnIx nn) := ofLengths rfl

theorem ldIxMemNn (nn : Word) : Statement (.ldIxMemNn nn) := ofLengths rfl

theorem addIxPp (pp : PairX) : Statement (.addIxPp pp) := ofLengths rfl

theorem ldIxhN (n : Byte) : Statement (.ldIxhN n) := ofLengths rfl

theorem ldIxlN (n : Byte) : Statement (.ldIxlN n) := ofLengths rfl

theorem incMemIx (d : Byte) : Statement (.incMemIx d) := ofLengths rfl

theorem decMemIx (d : Byte) : Statement (.decMemIx d) := ofLengths rfl

theorem ldMemIxN (d : Byte) (n : Byte) : Statement (.ldMemIxN d n) := ofLengths rfl

theorem ldMemIxR (d : Byte) (rr : Reg8) : Statement (.ldMemIxR d rr) := ofLengths rfl

theorem ldRMemIx (rr : Reg8) (d : Byte) : Statement (.ldRMemIx rr d) := ofLengths rfl

theorem ldIxhR (rx : RegX) : Statement (.ldIxhR rx) := ofLengths rfl

theorem ldIxlR (rx : RegX) : Statement (.ldIxlR rx) := ofLengths rfl

theorem ldRIxh (rr : Reg8) : Statement (.ldRIxh rr) := ofLengths rfl

theorem ldRIxl (rr : Reg8) : Statement (.ldRIxl rr) := ofLengths rfl

theorem addAMemIx (d : Byte) : Statement (.addAMemIx d) := ofLengths rfl

theorem adcAMemIx (d : Byte) : Statement (.adcAMemIx d) := ofLengths rfl

theorem subMemIx (d : Byte) : Statement (.subMemIx d) := ofLengths rfl

theorem sbcAMemIx (d : Byte) : Statement (.sbcAMemIx d) := ofLengths rfl

theorem andMemIx (d : Byte) : Statement (.andMemIx d) := ofLengths rfl

theorem xorMemIx (d : Byte) : Statement (.xorMemIx d) := ofLengths rfl

theorem orMemIx (d : Byte) : Statement (.orMemIx d) := ofLengths rfl

theorem cpMemIx (d : Byte) : Statement (.cpMemIx d) := ofLengths rfl

theorem ixIgnored (base : Instr) : Statement (.ixIgnored base) := by
  intro h
  have e := base_short base h
  exact ⟨Nat.le_add_left _ _, Nat.succ_le_succ e, Nat.le_refl _⟩

theorem ldIyNn (nn : Word) : Statement (.ldIyNn nn) := ofLengths rfl

theorem ldMemNnIy (nn : Word) : Statement (.ldMemNnIy nn) := ofLengths rfl

theorem ldIyMemNn (nn : Word) : Statement (.ldIyMemNn nn) := ofLengths rfl

theorem addIyPp (pp : PairX) : Statement (.addIyPp pp) := ofLengths rfl

theorem ldIyhN (n : Byte) : Statement (.ldIyhN n) := ofLengths rfl

theorem ldIylN (n : Byte) : Statement (.ldIylN n) := ofLengths rfl

theorem incMemIy (d : Byte) : Statement (.incMemIy d) := ofLengths rfl

theorem decMemIy (d : Byte) : Statement (.decMemIy d) := ofLengths rfl

theorem ldMemIyN (d : Byte) (n : Byte) : Statement (.ldMemIyN d n) := ofLengths rfl

theorem ldMemIyR (d : Byte) (rr : Reg8) : Statement (.ldMemIyR d rr) := ofLengths rfl

theorem ldRMemIy (rr : Reg8) (d : Byte) : Statement (.ldRMemIy rr d) := ofLengths rfl

theorem ldIyhR (rx : RegX) : Statement (.ldIyhR rx) := ofLengths rfl

theorem ldIylR (rx : RegX) : Statement (.ldIylR rx) := ofLengths rfl

theorem ldRIyh (rr : Reg8) : Statement (.ldRIyh rr) := ofLengths rfl

theorem ldRIyl (rr : Reg8) : Statement (.ldRIyl rr) := ofLengths rfl

theorem addAMemIy (d : Byte) : Statement (.addAMemIy d) := ofLengths rfl

theorem adcAMemIy (d : Byte) : Statement (.adcAMemIy d) := ofLengths rfl

theorem subMemIy (d : Byte) : Statement (.subMemIy d) := ofLengths rfl

theorem sbcAMemIy (d : Byte) : Statement (.sbcAMemIy d) := ofLengths rfl

theorem andMemIy (d : Byte) : Statement (.andMemIy d) := ofLengths rfl

theorem xorMemIy (d : Byte) : Statement (.xorMemIy d) := ofLengths rfl

theorem orMemIy (d : Byte) : Statement (.orMemIy d) := ofLengths rfl

theorem cpMemIy (d : Byte) : Statement (.cpMemIy d) := ofLengths rfl

theorem iyIgnored (base : Instr) : Statement (.iyIgnored base) := by
  intro h
  have e := base_short base h
  exact ⟨Nat.le_add_left _ _, Nat.succ_le_succ e, Nat.le_refl _⟩

theorem bitMemIx (b : BitVec 3) (z : BitVec 3) (d : Byte) : Statement (.bitMemIx b z d) := ofLengths rfl

theorem rlcMemIx (d : Byte) : Statement (.rlcMemIx d) := ofLengths rfl

theorem ldRRlcMemIx (rr : Reg8) (d : Byte) : Statement (.ldRRlcMemIx rr d) := ofLengths rfl

theorem rrcMemIx (d : Byte) : Statement (.rrcMemIx d) := ofLengths rfl

theorem ldRRrcMemIx (rr : Reg8) (d : Byte) : Statement (.ldRRrcMemIx rr d) := ofLengths rfl

theorem rlMemIx (d : Byte) : Statement (.rlMemIx d) := ofLengths rfl

theorem ldRRlMemIx (rr : Reg8) (d : Byte) : Statement (.ldRRlMemIx rr d) := ofLengths rfl

theorem rrMemIx (d : Byte) : Statement (.rrMemIx d) := ofLengths rfl

theorem ldRRrMemIx (rr : Reg8) (d : Byte) : Statement (.ldRRrMemIx rr d) := ofLengths rfl

theorem slaMemIx (d : Byte) : Statement (.slaMemIx d) := ofLengths rfl

theorem ldRSlaMemIx (rr : Reg8) (d : Byte) : Statement (.ldRSlaMemIx rr d) := ofLengths rfl

theorem sraMemIx (d : Byte) : Statement (.sraMemIx d) := ofLengths rfl

theorem ldRSraMemIx (rr : Reg8) (d : Byte) : Statement (.ldRSraMemIx rr d) := ofLengths rfl

theorem sllMemIx (d : Byte) : Statement (.sllMemIx d) := ofLengths rfl

theorem ldRSllMemIx (rr : Reg8) (d : Byte) : Statement (.ldRSllMemIx rr d) := ofLengths rfl

theorem srlMemIx (d : Byte) : Statement (.srlMemIx d) := ofLengths rfl

theorem ldRSrlMemIx (rr : Reg8) (d : Byte) : Statement (.ldRSrlMemIx rr d) := ofLengths rfl

theorem resMemIx (b : BitVec 3) (d : Byte) : Statement (.resMemIx b d) := ofLengths rfl

theorem ldRResMemIx (rr : Reg8) (b : BitVec 3) (d : Byte) : Statement (.ldRResMemIx rr b d) := ofLengths rfl

theorem setMemIx (b : BitVec 3) (d : Byte) : Statement (.setMemIx b d) := ofLengths rfl

theorem ldRSetMemIx (rr : Reg8) (b : BitVec 3) (d : Byte) : Statement (.ldRSetMemIx rr b d) := ofLengths rfl

theorem bitMemIy (b : BitVec 3) (z : BitVec 3) (d : Byte) : Statement (.bitMemIy b z d) := ofLengths rfl

theorem rlcMemIy (d : Byte) : Statement (.rlcMemIy d) := ofLengths rfl

theorem ldRRlcMemIy (rr : Reg8) (d : Byte) : Statement (.ldRRlcMemIy rr d) := ofLengths rfl

theorem rrcMemIy (d : Byte) : Statement (.rrcMemIy d) := ofLengths rfl

theorem ldRRrcMemIy (rr : Reg8) (d : Byte) : Statement (.ldRRrcMemIy rr d) := ofLengths rfl

theorem rlMemIy (d : Byte) : Statement (.rlMemIy d) := ofLengths rfl

theorem ldRRlMemIy (rr : Reg8) (d : Byte) : Statement (.ldRRlMemIy rr d) := ofLengths rfl

theorem rrMemIy (d : Byte) : Statement (.rrMemIy d) := ofLengths rfl

theorem ldRRrMemIy (rr : Reg8) (d : Byte) : Statement (.ldRRrMemIy rr d) := ofLengths rfl

theorem slaMemIy (d : Byte) : Statement (.slaMemIy d) := ofLengths rfl

theorem ldRSlaMemIy (rr : Reg8) (d : Byte) : Statement (.ldRSlaMemIy rr d) := ofLengths rfl

theorem sraMemIy (d : Byte) : Statement (.sraMemIy d) := ofLengths rfl

theorem ldRSraMemIy (rr : Reg8) (d : Byte) : Statement (.ldRSraMemIy rr d) := ofLengths rfl

theorem sllMemIy (d : Byte) : Statement (.sllMemIy d) := ofLengths rfl

theorem ldRSllMemIy (rr : Reg8) (d : Byte) : Statement (.ldRSllMemIy rr d) := ofLengths rfl

theorem srlMemIy (d : Byte) : Statement (.srlMemIy d) := ofLengths rfl

theorem ldRSrlMemIy (rr : Reg8) (d : Byte) : Statement (.ldRSrlMemIy rr d) := ofLengths rfl

theorem resMemIy (b : BitVec 3) (d : Byte) : Statement (.resMemIy b d) := ofLengths rfl

theorem ldRResMemIy (rr : Reg8) (b : BitVec 3) (d : Byte) : Statement (.ldRResMemIy rr b d) := ofLengths rfl

theorem setMemIy (b : BitVec 3) (d : Byte) : Statement (.setMemIy b d) := ofLengths rfl

theorem ldRSetMemIy (rr : Reg8) (b : BitVec 3) (d : Byte) : Statement (.ldRSetMemIy rr b d) := ofLengths rfl

theorem nop : Statement (.nop) := ofLengths rfl

theorem exAfAf : Statement (.exAfAf) := ofLengths rfl

theorem ldMemBcA : Statement (.ldMemBcA) := ofLengths rfl

theorem ldMemDeA : Statement (.ldMemDeA) := ofLengths rfl

theorem ldAMemBc : Statement (.ldAMemBc) := ofLengths rfl

theorem ldAMemDe : Statement (.ldAMemDe) := ofLengths rfl

theorem incMemHl : Statement (.incMemHl) := ofLengths rfl

theorem decMemHl : Statement (.decMemHl) := ofLengths rfl

theorem rlca : Statement (.rlca) := ofLengths rfl

theorem rrca : Statement (.rrca) := ofLengths rfl

theorem rla : Statement (.rla) := ofLengths rfl

theorem rra : Statement (.rra) := ofLengths rfl

theorem daa : Statement (.daa) := ofLengths rfl

theorem cpl : Statement (.cpl) := ofLengths rfl

theorem scf : Statement (.scf) := ofLengths rfl

theorem ccf : Statement (.ccf) := ofLengths rfl

theorem halt : Statement (.halt) := ofLengths rfl

theorem addAMemHl : Statement (.addAMemHl) := ofLengths rfl

theorem adcAMemHl : Statement (.adcAMemHl) := ofLengths rfl

theorem subMemHl : Statement (.subMemHl) := ofLengths rfl

theorem sbcAMemHl : Statement (.sbcAMemHl) := ofLengths rfl

theorem andMemHl : Statement (.andMemHl) := ofLengths rfl

theorem xorMemHl : Statement (.xorMemHl) := ofLengths rfl

theorem orMemHl : Statement (.orMemHl) := ofLengths rfl

theorem cpMemHl : Statement (.cpMemHl) := ofLengths rfl

theorem ret : Statement (.ret) := ofLengths rfl

theorem exx : Statement (.exx) := ofLengths rfl

theorem jpHl : Statement (.jpHl) := ofLengths rfl

theorem ldSpHl : Statement (.ldSpHl) := ofLengths rfl

theorem cbPrefix : Statement (.cbPrefix) := ofLengths rfl

theorem exSpHl : Statement (.exSpHl) := ofLengths rfl

theorem exDeHl : Statement (.exDeHl) := ofLengths rfl

theorem di : Statement (.di) := ofLengths rfl

theorem ei : Statement (.ei) := ofLengths rfl

theorem ddPrefix : Statement (.ddPrefix) := ofLengths rfl

theorem edPrefix : Statement (.edPrefix) := ofLengths rfl

theorem fdPrefix : Statement (.fdPrefix) := ofLengths rfl

theorem rlcMemHl : Statement (.rlcMemHl) := ofLengths rfl

theorem rrcMemHl : Statement (.rrcMemHl) := ofLengths rfl

theorem rlMemHl : Statement (.rlMemHl) := ofLengths rfl

theorem rrMemHl : Statement (.rrMemHl) := ofLengths rfl

theorem slaMemHl : Statement (.slaMemHl) := ofLengths rfl

theorem sraMemHl : Statement (.sraMemHl) := ofLengths rfl

theorem sllMemHl : Statement (.sllMemHl) := ofLengths rfl

theorem srlMemHl : Statement (.srlMemHl) := ofLengths rfl

theorem inC : Statement (.inC) := ofLengths rfl

theorem outC0 : Statement (.outC0) := ofLengths rfl

theorem reti : Statement (.reti) := ofLengths rfl

theorem ldIA : Statement (.ldIA) := ofLengths rfl

theorem ldRefreshA : Statement (.ldRefreshA) := ofLengths rfl

theorem ldAI : Statement (.ldAI) := ofLengths rfl

theorem ldARefresh : Statement (.ldARefresh) := ofLengths rfl

theorem rrd : Statement (.rrd) := ofLengths rfl

theorem rld : Statement (.rld) := ofLengths rfl

theorem ldi : Statement (.ldi) := ofLengths rfl

theorem cpi : Statement (.cpi) := ofLengths rfl

theorem ini : Statement (.ini) := ofLengths rfl

theorem outi : Statement (.outi) := ofLengths rfl

theorem ldd : Statement (.ldd) := ofLengths rfl

theorem cpd : Statement (.cpd) := ofLengths rfl

theorem ind : Statement (.ind) := ofLengths rfl

theorem outd : Statement (.outd) := ofLengths rfl

theorem ldir : Statement (.ldir) := ofLengths rfl

theorem cpir : Statement (.cpir) := ofLengths rfl

theorem inir : Statement (.inir) := ofLengths rfl

theorem otir : Statement (.otir) := ofLengths rfl

theorem lddr : Statement (.lddr) := ofLengths rfl

theorem cpdr : Statement (.cpdr) := ofLengths rfl

theorem indr : Statement (.indr) := ofLengths rfl

theorem otdr : Statement (.otdr) := ofLengths rfl

theorem ixCbPrefix : Statement (.ixCbPrefix) := ofLengths rfl

theorem redundantIxDd : Statement (.redundantIxDd) := ofLengths rfl

theorem redundantIxFd : Statement (.redundantIxFd) := ofLengths rfl

theorem redundantIxEd : Statement (.redundantIxEd) := ofLengths rfl

theorem incIx : Statement (.incIx) := ofLengths rfl

theorem decIx : Statement (.decIx) := ofLengths rfl

theorem incIxh : Statement (.incIxh) := ofLengths rfl

theorem decIxh : Statement (.decIxh) := ofLengths rfl

theorem incIxl : Statement (.incIxl) := ofLengths rfl

theorem decIxl : Statement (.decIxl) := ofLengths rfl

theorem haltIx : Statement (.haltIx) := ofLengths rfl

theorem addAIxh : Statement (.addAIxh) := ofLengths rfl

theorem addAIxl : Statement (.addAIxl) := ofLengths rfl

theorem adcAIxh : Statement (.adcAIxh) := ofLengths rfl

theorem adcAIxl : Statement (.adcAIxl) := ofLengths rfl

theorem subIxh : Statement (.subIxh) := ofLengths rfl

theorem subIxl : Statement (.subIxl) := ofLengths rfl

theorem sbcAIxh : Statement (.sbcAIxh) := ofLengths rfl

theorem sbcAIxl : Statement (.sbcAIxl) := ofLengths rfl

theorem andIxh : Statement (.andIxh) := ofLengths rfl

theorem andIxl : Statement (.andIxl) := ofLengths rfl

theorem xorIxh : Statement (.xorIxh) := ofLengths rfl

theorem xorIxl : Statement (.xorIxl) := ofLengths rfl

theorem orIxh : Statement (.orIxh) := ofLengths rfl

theorem orIxl : Statement (.orIxl) := ofLengths rfl

theorem cpIxh : Statement (.cpIxh) := ofLengths rfl

theorem cpIxl : Statement (.cpIxl) := ofLengths rfl

theorem popIx : Statement (.popIx) := ofLengths rfl

theorem exSpIx : Statement (.exSpIx) := ofLengths rfl

theorem pushIx : Statement (.pushIx) := ofLengths rfl

theorem jpIx : Statement (.jpIx) := ofLengths rfl

theorem ldSpIx : Statement (.ldSpIx) := ofLengths rfl

theorem iyCbPrefix : Statement (.iyCbPrefix) := ofLengths rfl

theorem redundantIyDd : Statement (.redundantIyDd) := ofLengths rfl

theorem redundantIyFd : Statement (.redundantIyFd) := ofLengths rfl

theorem redundantIyEd : Statement (.redundantIyEd) := ofLengths rfl

theorem incIy : Statement (.incIy) := ofLengths rfl

theorem decIy : Statement (.decIy) := ofLengths rfl

theorem incIyh : Statement (.incIyh) := ofLengths rfl

theorem decIyh : Statement (.decIyh) := ofLengths rfl

theorem incIyl : Statement (.incIyl) := ofLengths rfl

theorem decIyl : Statement (.decIyl) := ofLengths rfl

theorem haltIy : Statement (.haltIy) := ofLengths rfl

theorem addAIyh : Statement (.addAIyh) := ofLengths rfl

theorem addAIyl : Statement (.addAIyl) := ofLengths rfl

theorem adcAIyh : Statement (.adcAIyh) := ofLengths rfl

theorem adcAIyl : Statement (.adcAIyl) := ofLengths rfl

theorem subIyh : Statement (.subIyh) := ofLengths rfl

theorem subIyl : Statement (.subIyl) := ofLengths rfl

theorem sbcAIyh : Statement (.sbcAIyh) := ofLengths rfl

theorem sbcAIyl : Statement (.sbcAIyl) := ofLengths rfl

theorem andIyh : Statement (.andIyh) := ofLengths rfl

theorem andIyl : Statement (.andIyl) := ofLengths rfl

theorem xorIyh : Statement (.xorIyh) := ofLengths rfl

theorem xorIyl : Statement (.xorIyl) := ofLengths rfl

theorem orIyh : Statement (.orIyh) := ofLengths rfl

theorem orIyl : Statement (.orIyl) := ofLengths rfl

theorem cpIyh : Statement (.cpIyh) := ofLengths rfl

theorem cpIyl : Statement (.cpIyl) := ofLengths rfl

theorem popIy : Statement (.popIy) := ofLengths rfl

theorem exSpIy : Statement (.exSpIy) := ofLengths rfl

theorem pushIy : Statement (.pushIy) := ofLengths rfl

theorem jpIy : Statement (.jpIy) := ofLengths rfl

theorem ldSpIy : Statement (.ldSpIy) := ofLengths rfl

end Sys2Proof.Laws.Encoding
end

