-- ==== Sys2Proof/Tests/Slice0.lean ====
section
/-! SUPPORT. Tests: ill-formed terms, one word of each instruction written out from the spec's encodings, vectors of
spec/95_test_vectors.md, and a witness for every statement that has hypotheses. -/

set_option Elab.async false

namespace Sys2Proof.Tests

open Sys2Proof.Machine

/-! ### Well-formedness: an ill-formed term for each check -/

theorem test_wf_jr_condition : (Instr.jrCc .po 0).wf = false := by decide
theorem test_wf_no_h_from_ixh : (Instr.ldRIxh .h).wf = false := by decide
theorem test_wf_no_l_from_ixl : (Instr.ldRIxl .l).wf = false := by decide
theorem test_wf_no_l_from_iyh : (Instr.ldRIyh .l).wf = false := by decide
theorem test_wf_no_h_from_iyl : (Instr.ldRIyl .h).wf = false := by decide
theorem test_wf_retn_is_not_reti : (Instr.retn 1).wf = false := by decide
theorem test_wf_nop_ed_is_undefined : (Instr.nopEd 0xB0).wf = false := by decide
theorem test_wf_ignored_prefix_matters : (Instr.ixIgnored .jpHl).wf = false := by decide
theorem test_wf_ignored_prefix_of_prefix : (Instr.iyIgnored .cbPrefix).wf = false := by decide
theorem test_wf_ignored_prefix_twice : (Instr.ixIgnored (.ixIgnored .nop)).wf = false := by decide
theorem test_wf_ignored_prefix_of_nop : (Instr.ixIgnored .nop).wf = true := by decide

/-! ### Decoding: one word of every constructor, from the encodings of spec/opcode_table.json and the field tables of
30_encoding.md R92 to R98 -/

/-- Every list of bytes decodes, alone, to its instruction; a redundant prefix consumes one byte. -/
def allDecode (table : List (List Byte × Instr)) : Bool :=
  table.all fun row => match decode row.1 with
    | .ok (j, n) => decide (j = row.2) && decide (n = if isRedundant j then 1 else row.1.length)
    | .error _ => false

theorem test_decode_cpuControl : allDecode [
    ([0x00], .nop), ([0x76], .halt), ([0xF3], .di), ([0xFB], .ei), ([0xED, 0x66], .im0 true false),
    ([0xED, 0x56], .im1 false), ([0xED, 0x7E], .im2 true), ([0xED, 0x77], .nopEd 0x77),
    ([0xDD, 0xDD], .redundantIxDd), ([0xDD, 0xFD], .redundantIxFd), ([0xDD, 0xED], .redundantIxEd),
    ([0xDD, 0x76], .haltIx), ([0xFD, 0xDD], .redundantIyDd), ([0xFD, 0xFD], .redundantIyFd),
    ([0xFD, 0xED], .redundantIyEd), ([0xFD, 0x76], .haltIy)] =
    true := by decide +kernel

theorem test_decode_exchange : allDecode [
    ([0x08], .exAfAf), ([0xD9], .exx), ([0xE3], .exSpHl), ([0xEB], .exDeHl), ([0xED, 0xA0], .ldi),
    ([0xED, 0xA1], .cpi), ([0xED, 0xA8], .ldd), ([0xED, 0xA9], .cpd), ([0xED, 0xB0], .ldir), ([0xED, 0xB1], .cpir),
    ([0xED, 0xB8], .lddr), ([0xED, 0xB9], .cpdr), ([0xDD, 0xE3], .exSpIx), ([0xFD, 0xE3], .exSpIy)] =
    true := by decide +kernel

theorem test_decode_control : allDecode [
    ([0x10, 0x46], .djnz 0x46), ([0x18, 0x4D], .jr 0x4D), ([0x28, 0x5B], .jrCc .z 0x5B), ([0xE0], .retCc .po),
    ([0xC9], .ret), ([0xE9], .jpHl), ([0xD2, 0xE3, 0x8D], .jpCcNn .nc 0x8DE3), ([0xC3, 0xE3, 0x8D], .jpNn 0x8DE3),
    ([0xDC, 0xE8, 0x15], .callCcNn .c 0x15E8), ([0xCD, 0x05, 0x25], .callNn 0x2505), ([0xEF], .rstP 5),
    ([0xED, 0x4D], .reti), ([0xED, 0x5D], .retn 3), ([0xDD, 0xE9], .jpIx), ([0xFD, 0xE9], .jpIy)] =
    true := by decide +kernel

theorem test_decode_load16 : allDecode [
    ([0x21, 0xFF, 0x7B], .ldDdNn .hl 0x7BFF), ([0x22, 0x56, 0xA9], .ldMemNnHl 0xA956),
    ([0x2A, 0xCA, 0xE5], .ldHlMemNn 0xE5CA), ([0xD1], .popQq .de), ([0xF9], .ldSpHl), ([0xC5], .pushQq .bc),
    ([0xED, 0x63, 0xC7, 0x9F], .ldMemNnDd .hl 0x9FC7), ([0xED, 0x7B, 0xE4, 0xAE], .ldDdMemNn .sp 0xAEE4),
    ([0xDD, 0x21, 0xA1, 0xA1], .ldIxNn 0xA1A1), ([0xDD, 0x22, 0xBE, 0xB0], .ldMemNnIx 0xB0BE),
    ([0xDD, 0x2A, 0xDB, 0xBF], .ldIxMemNn 0xBFDB), ([0xDD, 0xE1], .popIx), ([0xDD, 0xE5], .pushIx),
    ([0xDD, 0xF9], .ldSpIx), ([0xFD, 0x21, 0xF9, 0xEF], .ldIyNn 0xEFF9),
    ([0xFD, 0x22, 0x16, 0xFF], .ldMemNnIy 0xFF16), ([0xFD, 0x2A, 0x33, 0x0E], .ldIyMemNn 0x0E33),
    ([0xFD, 0xE1], .popIy), ([0xFD, 0xE5], .pushIy), ([0xFD, 0xF9], .ldSpIy)] =
    true := by decide +kernel

theorem test_decode_alu16 : allDecode [
    ([0x39], .addHlSs .sp), ([0x03], .incSs .bc), ([0x1B], .decSs .de), ([0xED, 0x42], .sbcHlSs .bc),
    ([0xED, 0x5A], .adcHlSs .de), ([0xDD, 0x23], .incIx), ([0xDD, 0x2B], .decIx), ([0xDD, 0x29], .addIxPp .xy),
    ([0xFD, 0x23], .incIy), ([0xFD, 0x2B], .decIy), ([0xFD, 0x29], .addIyPp .xy)] =
    true := by decide +kernel

theorem test_decode_load8_1 : allDecode [
    ([0x02], .ldMemBcA), ([0x12], .ldMemDeA), ([0x32, 0x73, 0xB8], .ldMemNnA 0xB873), ([0x0A], .ldAMemBc),
    ([0x1A], .ldAMemDe), ([0x3A, 0xE7, 0xF4], .ldAMemNn 0xF4E7), ([0x36, 0xBD], .ldMemHlN 0xBD),
    ([0x16, 0xD9], .ldRN .d 0xD9), ([0x75], .ldMemHlR .l), ([0x7E], .ldRMemHl .a), ([0x41], .ldRR .b .c),
    ([0xED, 0x47], .ldIA), ([0xED, 0x4F], .ldRefreshA), ([0xED, 0x57], .ldAI), ([0xED, 0x5F], .ldARefresh),
    ([0xDD, 0x26, 0x60], .ldIxhN 0x60), ([0xDD, 0x2E, 0x75], .ldIxlN 0x75),
    ([0xDD, 0x36, 0x8A, 0x91], .ldMemIxN 0x8A 0x91), ([0xDD, 0x71, 0x98], .ldMemIxR 0x98 .c),
    ([0xDD, 0x4E, 0xA6], .ldRMemIx .c 0xA6), ([0xDD, 0x62], .ldIxhR .d), ([0xDD, 0x6B], .ldIxlR .e),
    ([0xDD, 0x44], .ldRIxh .b), ([0xDD, 0x4D], .ldRIxl .c), ([0xFD, 0x26, 0xE8], .ldIyhN 0xE8),
    ([0xFD, 0x2E, 0xFD], .ldIylN 0xFD), ([0xFD, 0x36, 0x12, 0x19], .ldMemIyN 0x12 0x19),
    ([0xFD, 0x71, 0x20], .ldMemIyR 0x20 .c), ([0xFD, 0x4E, 0x2E], .ldRMemIy .c 0x2E), ([0xFD, 0x62], .ldIyhR .d)] =
    true := by decide +kernel

theorem test_decode_load8_2 : allDecode [
    ([0xFD, 0x6B], .ldIylR .e), ([0xFD, 0x4C], .ldRIyh .c), ([0xFD, 0x55], .ldRIyl .d)] =
    true := by decide +kernel

theorem test_decode_alu8_1 : allDecode [
    ([0x34], .incMemHl), ([0x35], .decMemHl), ([0x04], .incR .b), ([0x0D], .decR .c), ([0x27], .daa),
    ([0x2F], .cpl), ([0x37], .scf), ([0x3F], .ccf), ([0x86], .addAMemHl), ([0x82], .addAR .d),
    ([0x8E], .adcAMemHl), ([0x8C], .adcAR .h), ([0x96], .subMemHl), ([0x97], .subR .a), ([0x9E], .sbcAMemHl),
    ([0x99], .sbcAR .c), ([0xA6], .andMemHl), ([0xA3], .andR .e), ([0xAE], .xorMemHl), ([0xAD], .xorR .l),
    ([0xB6], .orMemHl), ([0xB0], .orR .b), ([0xBE], .cpMemHl), ([0xBA], .cpR .d), ([0xC6, 0x30], .addAN 0x30),
    ([0xCE, 0x37], .adcAN 0x37), ([0xD6, 0x3E], .subN 0x3E), ([0xDE, 0x45], .sbcAN 0x45),
    ([0xE6, 0x4C], .andN 0x4C), ([0xEE, 0x53], .xorN 0x53)] =
    true := by decide +kernel

theorem test_decode_alu8_2 : allDecode [
    ([0xF6, 0x5A], .orN 0x5A), ([0xFE, 0x61], .cpN 0x61), ([0xED, 0x4C], .neg 1), ([0xDD, 0x24], .incIxh),
    ([0xDD, 0x25], .decIxh), ([0xDD, 0x2C], .incIxl), ([0xDD, 0x2D], .decIxl),
    ([0xDD, 0x34, 0x7C], .incMemIx 0x7C), ([0xDD, 0x35, 0x83], .decMemIx 0x83),
    ([0xDD, 0x86, 0xC2], .addAMemIx 0xC2), ([0xDD, 0x84], .addAIxh), ([0xDD, 0x85], .addAIxl),
    ([0xDD, 0x8E, 0xD7], .adcAMemIx 0xD7), ([0xDD, 0x8C], .adcAIxh), ([0xDD, 0x8D], .adcAIxl),
    ([0xDD, 0x96, 0xEC], .subMemIx 0xEC), ([0xDD, 0x94], .subIxh), ([0xDD, 0x95], .subIxl),
    ([0xDD, 0x9E, 0x01], .sbcAMemIx 0x01), ([0xDD, 0x9C], .sbcAIxh), ([0xDD, 0x9D], .sbcAIxl),
    ([0xDD, 0xA6, 0x16], .andMemIx 0x16), ([0xDD, 0xA4], .andIxh), ([0xDD, 0xA5], .andIxl),
    ([0xDD, 0xAE, 0x2B], .xorMemIx 0x2B), ([0xDD, 0xAC], .xorIxh), ([0xDD, 0xAD], .xorIxl),
    ([0xDD, 0xB6, 0x40], .orMemIx 0x40), ([0xDD, 0xB4], .orIxh), ([0xDD, 0xB5], .orIxl)] =
    true := by decide +kernel

theorem test_decode_alu8_3 : allDecode [
    ([0xDD, 0xBE, 0x55], .cpMemIx 0x55), ([0xDD, 0xBC], .cpIxh), ([0xDD, 0xBD], .cpIxl), ([0xFD, 0x24], .incIyh),
    ([0xFD, 0x25], .decIyh), ([0xFD, 0x2C], .incIyl), ([0xFD, 0x2D], .decIyl),
    ([0xFD, 0x34, 0x04], .incMemIy 0x04), ([0xFD, 0x35, 0x0B], .decMemIy 0x0B),
    ([0xFD, 0x86, 0x4A], .addAMemIy 0x4A), ([0xFD, 0x84], .addAIyh), ([0xFD, 0x85], .addAIyl),
    ([0xFD, 0x8E, 0x5F], .adcAMemIy 0x5F), ([0xFD, 0x8C], .adcAIyh), ([0xFD, 0x8D], .adcAIyl),
    ([0xFD, 0x96, 0x74], .subMemIy 0x74), ([0xFD, 0x94], .subIyh), ([0xFD, 0x95], .subIyl),
    ([0xFD, 0x9E, 0x89], .sbcAMemIy 0x89), ([0xFD, 0x9C], .sbcAIyh), ([0xFD, 0x9D], .sbcAIyl),
    ([0xFD, 0xA6, 0x9E], .andMemIy 0x9E), ([0xFD, 0xA4], .andIyh), ([0xFD, 0xA5], .andIyl),
    ([0xFD, 0xAE, 0xB3], .xorMemIy 0xB3), ([0xFD, 0xAC], .xorIyh), ([0xFD, 0xAD], .xorIyl),
    ([0xFD, 0xB6, 0xC8], .orMemIy 0xC8), ([0xFD, 0xB4], .orIyh), ([0xFD, 0xB5], .orIyl)] =
    true := by decide +kernel

theorem test_decode_alu8_4 : allDecode [
    ([0xFD, 0xBE, 0xDD], .cpMemIy 0xDD), ([0xFD, 0xBC], .cpIyh), ([0xFD, 0xBD], .cpIyl)] =
    true := by decide +kernel

theorem test_decode_rotate_1 : allDecode [
    ([0x07], .rlca), ([0x0F], .rrca), ([0x17], .rla), ([0x1F], .rra), ([0xCB, 0x06], .rlcMemHl),
    ([0xCB, 0x07], .rlcR .a), ([0xCB, 0x0E], .rrcMemHl), ([0xCB, 0x09], .rrcR .c), ([0xCB, 0x16], .rlMemHl),
    ([0xCB, 0x13], .rlR .e), ([0xCB, 0x1E], .rrMemHl), ([0xCB, 0x1D], .rrR .l), ([0xCB, 0x26], .slaMemHl),
    ([0xCB, 0x20], .slaR .b), ([0xCB, 0x2E], .sraMemHl), ([0xCB, 0x2A], .sraR .d), ([0xCB, 0x36], .sllMemHl),
    ([0xCB, 0x34], .sllR .h), ([0xCB, 0x3E], .srlMemHl), ([0xCB, 0x3F], .srlR .a), ([0xED, 0x67], .rrd),
    ([0xED, 0x6F], .rld), ([0xDD, 0xCB, 0x23, 0x06], .rlcMemIx 0x23),
    ([0xDD, 0xCB, 0x31, 0x03], .ldRRlcMemIx .e 0x31), ([0xDD, 0xCB, 0x31, 0x0E], .rrcMemIx 0x31),
    ([0xDD, 0xCB, 0x3F, 0x0D], .ldRRrcMemIx .l 0x3F), ([0xDD, 0xCB, 0x3F, 0x16], .rlMemIx 0x3F),
    ([0xDD, 0xCB, 0x4D, 0x10], .ldRRlMemIx .b 0x4D), ([0xDD, 0xCB, 0x4D, 0x1E], .rrMemIx 0x4D),
    ([0xDD, 0xCB, 0x5B, 0x1A], .ldRRrMemIx .d 0x5B)] =
    true := by decide +kernel

theorem test_decode_rotate_2 : allDecode [
    ([0xDD, 0xCB, 0x5B, 0x26], .slaMemIx 0x5B), ([0xDD, 0xCB, 0x69, 0x24], .ldRSlaMemIx .h 0x69),
    ([0xDD, 0xCB, 0x69, 0x2E], .sraMemIx 0x69), ([0xDD, 0xCB, 0x77, 0x2F], .ldRSraMemIx .a 0x77),
    ([0xDD, 0xCB, 0x77, 0x36], .sllMemIx 0x77), ([0xDD, 0xCB, 0x85, 0x31], .ldRSllMemIx .c 0x85),
    ([0xDD, 0xCB, 0x85, 0x3E], .srlMemIx 0x85), ([0xDD, 0xCB, 0x93, 0x3B], .ldRSrlMemIx .e 0x93),
    ([0xFD, 0xCB, 0xB6, 0x06], .rlcMemIy 0xB6), ([0xFD, 0xCB, 0xC4, 0x03], .ldRRlcMemIy .e 0xC4),
    ([0xFD, 0xCB, 0xC4, 0x0E], .rrcMemIy 0xC4), ([0xFD, 0xCB, 0xD2, 0x0D], .ldRRrcMemIy .l 0xD2),
    ([0xFD, 0xCB, 0xD2, 0x16], .rlMemIy 0xD2), ([0xFD, 0xCB, 0xE0, 0x10], .ldRRlMemIy .b 0xE0),
    ([0xFD, 0xCB, 0xE0, 0x1E], .rrMemIy 0xE0), ([0xFD, 0xCB, 0xEE, 0x1A], .ldRRrMemIy .d 0xEE),
    ([0xFD, 0xCB, 0xEE, 0x26], .slaMemIy 0xEE), ([0xFD, 0xCB, 0xFC, 0x24], .ldRSlaMemIy .h 0xFC),
    ([0xFD, 0xCB, 0xFC, 0x2E], .sraMemIy 0xFC), ([0xFD, 0xCB, 0x0A, 0x2F], .ldRSraMemIy .a 0x0A),
    ([0xFD, 0xCB, 0x0A, 0x36], .sllMemIy 0x0A), ([0xFD, 0xCB, 0x18, 0x31], .ldRSllMemIy .c 0x18),
    ([0xFD, 0xCB, 0x18, 0x3E], .srlMemIy 0x18), ([0xFD, 0xCB, 0x26, 0x3B], .ldRSrlMemIy .e 0x26)] =
    true := by decide +kernel

theorem test_decode_prefix : allDecode [
    ([0xCB], .cbPrefix), ([0xDD], .ddPrefix), ([0xED], .edPrefix), ([0xFD], .fdPrefix),
    ([0xDD, 0xCB], .ixCbPrefix), ([0xDD, 0x41], .ixIgnored (.ldRR .b .c)), ([0xFD, 0xCB], .iyCbPrefix),
    ([0xFD, 0x41], .iyIgnored (.ldRR .b .c))] =
    true := by decide +kernel

theorem test_decode_io : allDecode [
    ([0xD3, 0xDC], .outNA 0xDC), ([0xDB, 0xE3], .inAN 0xE3), ([0xED, 0x70], .inC), ([0xED, 0x40], .inRC .b),
    ([0xED, 0x71], .outC0), ([0xED, 0x51], .outCR .d), ([0xED, 0xA2], .ini), ([0xED, 0xA3], .outi),
    ([0xED, 0xAA], .ind), ([0xED, 0xAB], .outd), ([0xED, 0xB2], .inir), ([0xED, 0xB3], .otir),
    ([0xED, 0xBA], .indr), ([0xED, 0xBB], .otdr)] =
    true := by decide +kernel

theorem test_decode_bit : allDecode [
    ([0xCB, 0x4E], .bitMemHl 1), ([0xCB, 0x52], .bitR 2 .d), ([0xCB, 0x9E], .resMemHl 3),
    ([0xCB, 0xA4], .resR 4 .h), ([0xCB, 0xEE], .setMemHl 5), ([0xCB, 0xF7], .setR 6 .a),
    ([0xDD, 0xCB, 0x2A, 0x53], .bitMemIx 2 3 0x2A), ([0xDD, 0xCB, 0x9A, 0xAE], .resMemIx 5 0x9A),
    ([0xDD, 0xCB, 0xA8, 0xBD], .ldRResMemIx .l 7 0xA8), ([0xDD, 0xCB, 0xA8, 0xFE], .setMemIx 7 0xA8),
    ([0xDD, 0xCB, 0xB6, 0xD0], .ldRSetMemIx .b 2 0xB6), ([0xFD, 0xCB, 0xBD, 0x53], .bitMemIy 2 3 0xBD),
    ([0xFD, 0xCB, 0x2D, 0xAE], .resMemIy 5 0x2D), ([0xFD, 0xCB, 0x3B, 0xBD], .ldRResMemIy .l 7 0x3B),
    ([0xFD, 0xCB, 0x3B, 0xFE], .setMemIy 7 0x3B), ([0xFD, 0xCB, 0x49, 0xD0], .ldRSetMemIy .b 2 0x49)] =
    true := by decide +kernel

/-! ### Vectors of spec/95_test_vectors.md: one engine step on a small state -/

/-- The start state of the vectors' conventions. -/
def start : State :=
  { State.reset with
    pc := 0x8000
    cfg := { Config.base with contention := [] } }

/-- One engine step with `bytes` loaded at `PC`, and what must hold after it. -/
def one (bytes : List Byte) (s : State) (check : State → Bool) : Bool :=
  match (s.loadBytes s.pc bytes).engineStep with
  | .next t => check t
  | _ => false

/-- V40-1 (R130): LD B,C. -/
theorem test_V40_1 : one [0x41] { start with c := 0x5A }
    (fun t => decide (t.b = 0x5A ∧ t.c = 0x5A ∧ t.pc = 0x8001 ∧ t.r = 0x01 ∧
      t.tacts = 4)) = true := by decide +kernel

/-- V40-2 (R132): LD A,(HL). -/
theorem test_V40_2 : one [0x7E] { start.load 0x9000 0x77 with h := 0x90, l := 0x00 }
    (fun t => decide (t.a = 0x77 ∧ t.f = 0x00 ∧ t.pc = 0x8001 ∧ t.r = 0x01 ∧
      t.tacts = 7)) = true := by decide +kernel

/-- V40-3 (R137): LD (IX-16),0xAB: negative displacement. -/
theorem test_V40_3 : one [0xDD, 0x36, 0xF0, 0xAB] { start with ix := 0x9010 }
    (fun t => decide (t.pc = 0x8004 ∧ t.mw = 0x9000 ∧ t.r = 0x02 ∧ t.tacts = 19 ∧
      t.peek 0x9000 = 0xAB)) = true := by decide +kernel

/-- V40-5 (R133): LD B,(IX+0x15): address wraps to 0x0005. -/
theorem test_V40_5 : one [0xDD, 0x46, 0x15] { start.load 0x0005 0x99 with ix := 0xFFF0 }
    (fun t => decide (t.b = 0x99 ∧ t.c = 0x00 ∧ t.pc = 0x8003 ∧ t.mw = 0x0005 ∧ t.r = 0x02 ∧
      t.tacts = 19)) = true := by decide +kernel

/-- V40-6 (R140): LD A,(nn): MW = nn+1. -/
theorem test_V40_6 : one [0x3A, 0x00, 0x90] (start.load 0x9000 0x42)
    (fun t => decide (t.a = 0x42 ∧ t.f = 0x00 ∧ t.pc = 0x8003 ∧ t.mw = 0x9001 ∧ t.r = 0x01 ∧
      t.tacts = 13)) = true := by decide +kernel

/-- V40-7 (R143): LD (nn),A: MW = A ++ (nn+1 mod 256). -/
theorem test_V40_7 : one [0x32, 0xFF, 0x90] { start with a := 0x42 }
    (fun t => decide (t.pc = 0x8003 ∧ t.mw = 0x4200 ∧ t.r = 0x01 ∧ t.tacts = 13 ∧
      t.peek 0x90FF = 0x42)) = true := by decide +kernel

/-- V40-8 (R136): LD (HL),n into ROM: no write. -/
theorem test_V40_8 : one [0x36, 0x55] { start with h := 0x00, l := 0x00 }
    (fun t => decide (t.pc = 0x8002 ∧ t.r = 0x01 ∧ t.tacts = 10 ∧ t.peek 0x0000 = 0x00)) = true := by decide +kernel

/-- V40-9 (R144): LD A,I: Z, PV=IFF2=0, C kept. -/
theorem test_V40_9 : one [0xED, 0x57] { start with i := 0x00, iff2 := false, f := 0xFF }
    (fun t => decide (t.a = 0x00 ∧ t.f = 0x41 ∧ t.pc = 0x8002 ∧ t.r = 0x02 ∧
      t.tacts = 9)) = true := by decide +kernel

/-- V40-10 (R145): LD A,R: R wraps in 7 bits after two fetches. -/
theorem test_V40_10 : one [0xED, 0x5F] { start with r := 0x7F, iff2 := true }
    (fun t => decide (t.a = 0x01 ∧ t.f = 0x04 ∧ t.pc = 0x8002 ∧ t.r = 0x01 ∧
      t.tacts = 9)) = true := by decide +kernel

/-- V40-11 (R148): LD IXH,IXL. -/
theorem test_V40_11 : one [0xDD, 0x65] { start with ix := 0x1234 }
    (fun t => decide (t.ix = 0x3434 ∧ t.pc = 0x8002 ∧ t.r = 0x02 ∧ t.tacts = 8)) = true := by decide +kernel

/-- V40-12 (R133): LD H,(IX+1): plain H, not IXH. -/
theorem test_V40_12 : one [0xDD, 0x66, 0x01] { start.load 0x9001 0x5A with ix := 0x9000, h := 0x11 }
    (fun t => decide (t.h = 0x5A ∧ t.l = 0x00 ∧ t.pc = 0x8003 ∧ t.mw = 0x9001 ∧ t.r = 0x02 ∧
      t.tacts = 19)) = true := by decide +kernel

/-- V40-13 (R146): LD I,A. -/
theorem test_V40_13 : one [0xED, 0x47] { start with a := 0x9C }
    (fun t => decide (t.pc = 0x8002 ∧ t.i = 0x9C ∧ t.r = 0x02 ∧ t.tacts = 9)) = true := by decide +kernel

/-- V40-14 (R147): LD R,A: bit 7 written. -/
theorem test_V40_14 : one [0xED, 0x4F] { start with a := 0x80 }
    (fun t => decide (t.pc = 0x8002 ∧ t.r = 0x80 ∧ t.tacts = 9)) = true := by decide +kernel

/-- V41-2 (R162): LD HL,(0xFFFF): high byte from 0x0000 (ROM, 0). -/
theorem test_V41_2 : one [0x2A, 0xFF, 0xFF] (start.load 0xFFFF 0x12)
    (fun t => decide (t.h = 0x00 ∧ t.l = 0x12 ∧ t.pc = 0x8003 ∧ t.r = 0x01 ∧
      t.tacts = 16)) = true := by decide +kernel

/-- V41-3 (R165): LD (nn),HL. -/
theorem test_V41_3 : one [0x22, 0x00, 0x90] { start with h := 0xBE, l := 0xEF }
    (fun t => decide (t.pc = 0x8003 ∧ t.mw = 0x9001 ∧ t.r = 0x01 ∧ t.tacts = 16 ∧ t.peek 0x9000 = 0xEF ∧
      t.peek 0x9001 = 0xBE)) = true := by decide +kernel

/-- V41-4 (R163): LD BC,(nn). -/
theorem test_V41_4 : one [0xED, 0x4B, 0x00, 0x90] ((start.load 0x9000 0xCD).load 0x9001 0xAB)
    (fun t => decide (t.b = 0xAB ∧ t.c = 0xCD ∧ t.pc = 0x8004 ∧ t.mw = 0x9001 ∧ t.r = 0x02 ∧
      t.tacts = 20)) = true := by decide +kernel

/-- V41-5 (R166): LD (nn),SP. -/
theorem test_V41_5 : one [0xED, 0x73, 0x00, 0x90] { start with sp := 0x1234 }
    (fun t => decide (t.pc = 0x8004 ∧ t.mw = 0x9001 ∧ t.r = 0x02 ∧ t.tacts = 20 ∧ t.peek 0x9000 = 0x34 ∧
      t.peek 0x9001 = 0x12)) = true := by decide +kernel

/-- V41-7 (R170): PUSH AF at SP=0: writes 0xFFFF, 0xFFFE. -/
theorem test_V41_7 : one [0xF5] { start with a := 0x12, f := 0xD7, sp := 0x0000 }
    (fun t => decide (t.sp = 0xFFFE ∧ t.pc = 0x8001 ∧ t.r = 0x01 ∧ t.tacts = 11 ∧ t.peek 0xFFFE = 0xD7 ∧
      t.peek 0xFFFF = 0x12)) = true := by decide +kernel

/-- V41-8 (R172): POP BC at SP=0xFFFF: high byte from 0x0000. -/
theorem test_V41_8 : one [0xC1] { start.load 0xFFFF 0x34 with sp := 0xFFFF }
    (fun t => decide (t.b = 0x00 ∧ t.c = 0x34 ∧ t.sp = 0x0001 ∧ t.pc = 0x8001 ∧ t.r = 0x01 ∧
      t.tacts = 10)) = true := by decide +kernel

/-- V41-9 (R171): PUSH IX. -/
theorem test_V41_9 : one [0xDD, 0xE5] { start with ix := 0xCAFE, sp := 0xA000 }
    (fun t => decide (t.sp = 0x9FFE ∧ t.pc = 0x8002 ∧ t.r = 0x02 ∧ t.tacts = 15 ∧ t.peek 0x9FFE = 0xFE ∧
      t.peek 0x9FFF = 0xCA)) = true := by decide +kernel

/-- V41-10 (R172): POP AF: F takes every bit. -/
theorem test_V41_10 : one [0xF1] { start.load 0x9000 0xFF with sp := 0x9000 }
    (fun t => decide (t.a = 0x00 ∧ t.f = 0xFF ∧ t.sp = 0x9002 ∧ t.pc = 0x8001 ∧ t.r = 0x01 ∧
      t.tacts = 10)) = true := by decide +kernel

/-- V41-11 (R169): LD SP,IY. -/
theorem test_V41_11 : one [0xFD, 0xF9] { start with iy := 0x0102 }
    (fun t => decide (t.sp = 0x0102 ∧ t.pc = 0x8002 ∧ t.r = 0x02 ∧ t.tacts = 10)) = true := by decide +kernel

/-- V42-1 (R190): EX DE,HL. -/
theorem test_V42_1 : one [0xEB] { start with d := 0x11, e := 0x11, h := 0x22, l := 0x22 }
    (fun t => decide (t.d = 0x22 ∧ t.e = 0x22 ∧ t.h = 0x11 ∧ t.l = 0x11 ∧ t.pc = 0x8001 ∧ t.r = 0x01 ∧
      t.tacts = 4)) = true := by decide +kernel

/-- V42-2 (R191): EX AF,AF'. -/
theorem test_V42_2 : one [0x08] { start with a := 0x12, f := 0x34, afAlt := 0x5678 }
    (fun t => decide (t.a = 0x56 ∧ t.f = 0x78 ∧ t.afAlt = 0x1234 ∧ t.pc = 0x8001 ∧ t.r = 0x01 ∧
      t.tacts = 4)) = true := by decide +kernel

/-- V42-3 (R192): EXX. -/
theorem test_V42_3 : one [0xD9] { start with 
      b := 0x00, c := 0x01,
      d := 0x00, e := 0x02, h := 0x00, l := 0x03, bcAlt := 0x0004, deAlt := 0x0005, hlAlt := 0x0006  }
    (fun t => decide (t.b = 0x00 ∧ t.c = 0x04 ∧ t.d = 0x00 ∧ t.e = 0x05 ∧ t.h = 0x00 ∧ t.l = 0x06 ∧
      t.bcAlt = 0x0001 ∧ t.deAlt = 0x0002 ∧ t.hlAlt = 0x0003 ∧ t.pc = 0x8001 ∧ t.r = 0x01 ∧
      t.tacts = 4)) = true := by decide +kernel

/-- V42-4 (R193): EX (SP),HL: MW = new HL. -/
theorem test_V42_4 : one [0xE3] { (start.load 0x9000 0x78).load 0x9001 0x56 with h := 0x12, l := 0x34, sp := 0x9000 }
    (fun t => decide (t.h = 0x56 ∧ t.l = 0x78 ∧ t.pc = 0x8001 ∧ t.mw = 0x5678 ∧ t.r = 0x01 ∧ t.tacts = 19 ∧
      t.peek 0x9000 = 0x34 ∧ t.peek 0x9001 = 0x12)) = true := by decide +kernel

/-- V42-5 (R194): EX (SP),IX. -/
theorem test_V42_5 : one [0xDD, 0xE3] { (start.load 0x9000 0x78).load 0x9001 0x56 with ix := 0x1234, sp := 0x9000 }
    (fun t => decide (t.ix = 0x5678 ∧ t.pc = 0x8002 ∧ t.mw = 0x5678 ∧ t.r = 0x02 ∧ t.tacts = 23 ∧
      t.peek 0x9000 = 0x34 ∧ t.peek 0x9001 = 0x12)) = true := by decide +kernel

/-- V42-6 (R196): LDI, last byte: PV=0, Y=n[1], X=n[3]. -/
theorem test_V42_6 : one [0xED, 0xA0] { start.load 0x9000 0x0A with 
      h := 0x90, l := 0x00,
      d := 0xA0, e := 0x00, b := 0x00, c := 0x01, a := 0x00  }
    (fun t => decide (t.a = 0x00 ∧ t.f = 0x28 ∧ t.b = 0x00 ∧ t.c = 0x00 ∧ t.d = 0xA0 ∧ t.e = 0x01 ∧ t.h = 0x90 ∧
      t.l = 0x01 ∧ t.pc = 0x8002 ∧ t.r = 0x02 ∧ t.tacts = 16 ∧ t.peek 0xA000 = 0x0A)) = true := by decide +kernel

/-- V42-7 (R197, R195): LDIR, first of two iterations: repeats. -/
theorem test_V42_7 : one [0xED, 0xB0] { (start.load 0x9000 0x11).load 0x9001 0x22 with 
      h := 0x90, l := 0x00,
      d := 0xA0, e := 0x00, b := 0x00, c := 0x02  }
    (fun t => decide (t.a = 0x00 ∧ t.f = 0x04 ∧ t.b = 0x00 ∧ t.c = 0x01 ∧ t.d = 0xA0 ∧ t.e = 0x01 ∧ t.h = 0x90 ∧
      t.l = 0x01 ∧ t.pc = 0x8000 ∧ t.mw = 0x8001 ∧ t.r = 0x02 ∧ t.tacts = 21 ∧
      t.peek 0xA000 = 0x11)) = true := by decide +kernel

/-- V42-9 (R197, R195): LDIR with BC=0: BC wraps to 0xFFFF and repeats (65536 iterations in all). -/
theorem test_V42_9 : one [0xED, 0xB0] { start.load 0x9000 0x11 with 
      h := 0x90, l := 0x00,
      d := 0xA0, e := 0x00, b := 0x00, c := 0x00  }
    (fun t => decide (t.a = 0x00 ∧ t.f = 0x04 ∧ t.b = 0xFF ∧ t.c = 0xFF ∧ t.d = 0xA0 ∧ t.e = 0x01 ∧ t.h = 0x90 ∧
      t.l = 0x01 ∧ t.pc = 0x8000 ∧ t.mw = 0x8001 ∧ t.r = 0x02 ∧ t.tacts = 21 ∧
      t.peek 0xA000 = 0x11)) = true := by decide +kernel

/-- V42-12 (R200): CPI, not found, BC runs out. -/
theorem test_V42_12 : one [0xED, 0xA1] { start.load 0x9000 0x11 with h := 0x90, l := 0x00, b := 0x00, c := 0x01, a := 0x55 }
    (fun t => decide (t.a = 0x55 ∧ t.f = 0x02 ∧ t.b = 0x00 ∧ t.c = 0x00 ∧ t.h = 0x90 ∧ t.l = 0x01 ∧
      t.pc = 0x8002 ∧ t.mw = 0x0001 ∧ t.r = 0x02 ∧ t.tacts = 16)) = true := by decide +kernel

/-- V42-14 (R202): CPD, found: Z, PV (BC != 0). -/
theorem test_V42_14 : one [0xED, 0xA9] { start.load 0x9000 0x10 with h := 0x90, l := 0x00, b := 0x00, c := 0x05, a := 0x10 }
    (fun t => decide (t.a = 0x10 ∧ t.f = 0x46 ∧ t.b = 0x00 ∧ t.c = 0x04 ∧ t.h = 0x8F ∧ t.l = 0xFF ∧
      t.pc = 0x8002 ∧ t.mw = 0xFFFF ∧ t.r = 0x02 ∧ t.tacts = 16)) = true := by decide +kernel

/-- V43-1 (R221): ADD A,n: signed overflow. -/
theorem test_V43_1 : one [0xC6, 0x01] { start with a := 0x7F }
    (fun t => decide (t.a = 0x80 ∧ t.f = 0x94 ∧ t.pc = 0x8002 ∧ t.r = 0x01 ∧
      t.tacts = 7)) = true := by decide +kernel

/-- V43-2 (R221): ADD A,n: zero, half carry, carry. -/
theorem test_V43_2 : one [0xC6, 0x01] { start with a := 0xFF }
    (fun t => decide (t.a = 0x00 ∧ t.f = 0x51 ∧ t.pc = 0x8002 ∧ t.r = 0x01 ∧
      t.tacts = 7)) = true := by decide +kernel

/-- V43-4 (R222): ADC A,0xFF with carry in: 0x1FF. -/
theorem test_V43_4 : one [0xCE, 0xFF] { start with a := 0xFF, f := 0x01 }
    (fun t => decide (t.a = 0xFF ∧ t.f = 0xB9 ∧ t.pc = 0x8002 ∧ t.r = 0x01 ∧
      t.tacts = 7)) = true := by decide +kernel

/-- V43-6 (R223): SUB n: signed overflow. -/
theorem test_V43_6 : one [0xD6, 0x01] { start with a := 0x80 }
    (fun t => decide (t.a = 0x7F ∧ t.f = 0x3E ∧ t.pc = 0x8002 ∧ t.r = 0x01 ∧
      t.tacts = 7)) = true := by decide +kernel

/-- V43-7 (R224): SBC A,A with carry: 0xFF. -/
theorem test_V43_7 : one [0x9F] { start with a := 0x12, f := 0x01 }
    (fun t => decide (t.a = 0xFF ∧ t.f = 0xBB ∧ t.pc = 0x8001 ∧ t.r = 0x01 ∧
      t.tacts = 4)) = true := by decide +kernel

/-- V43-8 (R225): AND B: zero, H=1, parity even. -/
theorem test_V43_8 : one [0xA0] { start with a := 0xF0, b := 0x0F }
    (fun t => decide (t.a = 0x00 ∧ t.f = 0x54 ∧ t.pc = 0x8001 ∧ t.r = 0x01 ∧
      t.tacts = 4)) = true := by decide +kernel

/-- V43-9 (R226): XOR A. -/
theorem test_V43_9 : one [0xAF] { start with a := 0x5A }
    (fun t => decide (t.a = 0x00 ∧ t.f = 0x44 ∧ t.pc = 0x8001 ∧ t.r = 0x01 ∧
      t.tacts = 4)) = true := by decide +kernel

/-- V43-10 (R227): OR B: Y and X from result. -/
theorem test_V43_10 : one [0xB0] { start with a := 0x00, b := 0x28 }
    (fun t => decide (t.a = 0x28 ∧ t.f = 0x2C ∧ t.pc = 0x8001 ∧ t.r = 0x01 ∧
      t.tacts = 4)) = true := by decide +kernel

/-- V43-11 (R228): CP B: Y and X from operand 0x28. -/
theorem test_V43_11 : one [0xB8] { start with a := 0x40, b := 0x28 }
    (fun t => decide (t.a = 0x40 ∧ t.f = 0x3A ∧ t.pc = 0x8001 ∧ t.r = 0x01 ∧
      t.tacts = 4)) = true := by decide +kernel

/-- V43-12 (R228): CP B: equal. -/
theorem test_V43_12 : one [0xB8] { start with a := 0x28, b := 0x28 }
    (fun t => decide (t.a = 0x28 ∧ t.f = 0x6A ∧ t.pc = 0x8001 ∧ t.r = 0x01 ∧
      t.tacts = 4)) = true := by decide +kernel

/-- V43-13 (R229): INC A: 0x7F overflow; C kept. -/
theorem test_V43_13 : one [0x3C] { start with a := 0x7F, f := 0x01 }
    (fun t => decide (t.a = 0x80 ∧ t.f = 0x95 ∧ t.pc = 0x8001 ∧ t.r = 0x01 ∧
      t.tacts = 4)) = true := by decide +kernel

/-- V43-15 (R232): DEC A: 0x80 overflow. -/
theorem test_V43_15 : one [0x3D] { start with a := 0x80 }
    (fun t => decide (t.a = 0x7F ∧ t.f = 0x3E ∧ t.pc = 0x8001 ∧ t.r = 0x01 ∧
      t.tacts = 4)) = true := by decide +kernel

/-- V43-17 (R230): INC (HL): half carry. -/
theorem test_V43_17 : one [0x34] { start.load 0x9000 0x0F with h := 0x90, l := 0x00 }
    (fun t => decide (t.a = 0x00 ∧ t.f = 0x10 ∧ t.pc = 0x8001 ∧ t.r = 0x01 ∧ t.tacts = 11 ∧
      t.peek 0x9000 = 0x10)) = true := by decide +kernel

/-- V43-18 (R234): DEC (IX-1): zero. -/
theorem test_V43_18 : one [0xDD, 0x35, 0xFF] { start.load 0x8FFF 0x01 with ix := 0x9000 }
    (fun t => decide (t.a = 0x00 ∧ t.f = 0x42 ∧ t.pc = 0x8003 ∧ t.mw = 0x8FFF ∧ t.r = 0x02 ∧ t.tacts = 23 ∧
      t.peek 0x8FFF = 0x00)) = true := by decide +kernel

/-- V43-21 (R235): DAA on 0x9A: 0x00 with carry. -/
theorem test_V43_21 : one [0x27] { start with a := 0x9A, f := 0x00 }
    (fun t => decide (t.a = 0x00 ∧ t.f = 0x55 ∧ t.pc = 0x8001 ∧ t.r = 0x01 ∧
      t.tacts = 4)) = true := by decide +kernel

/-- V43-23 (R236): CPL. -/
theorem test_V43_23 : one [0x2F] { start with a := 0x5A }
    (fun t => decide (t.a = 0xA5 ∧ t.f = 0x32 ∧ t.pc = 0x8001 ∧ t.r = 0x01 ∧
      t.tacts = 4)) = true := by decide +kernel

/-- V43-24 (R237): NEG 0x80: 0x80, PV, C. -/
theorem test_V43_24 : one [0xED, 0x44] { start with a := 0x80 }
    (fun t => decide (t.a = 0x80 ∧ t.f = 0x87 ∧ t.pc = 0x8002 ∧ t.r = 0x02 ∧
      t.tacts = 8)) = true := by decide +kernel

/-- V43-26 (R237): NEG mirror ED 4C. -/
theorem test_V43_26 : one [0xED, 0x4C] { start with a := 0x01 }
    (fun t => decide (t.a = 0xFF ∧ t.f = 0xBB ∧ t.pc = 0x8002 ∧ t.r = 0x02 ∧
      t.tacts = 8)) = true := by decide +kernel

/-- V43-27 (R239): SCF: Y, X from A. -/
theorem test_V43_27 : one [0x37] { start with a := 0x28, f := 0x00 }
    (fun t => decide (t.a = 0x28 ∧ t.f = 0x29 ∧ t.pc = 0x8001 ∧ t.r = 0x01 ∧
      t.tacts = 4)) = true := by decide +kernel

/-- V43-28 (R238): CCF: H takes old C. -/
theorem test_V43_28 : one [0x3F] { start with a := 0x00, f := 0x01 }
    (fun t => decide (t.a = 0x00 ∧ t.f = 0x10 ∧ t.pc = 0x8001 ∧ t.r = 0x01 ∧
      t.tacts = 4)) = true := by decide +kernel

/-- V43-29 (R221): ADD A,IXH. -/
theorem test_V43_29 : one [0xDD, 0x84] { start with a := 0x10, ix := 0x2000 }
    (fun t => decide (t.a = 0x30 ∧ t.f = 0x20 ∧ t.pc = 0x8002 ∧ t.r = 0x02 ∧
      t.tacts = 8)) = true := by decide +kernel

/-- V43-30 (R221): ADD A,(IY+5). -/
theorem test_V43_30 : one [0xFD, 0x86, 0x05] { start.load 0x9005 0xFF with a := 0x01, iy := 0x9000 }
    (fun t => decide (t.a = 0x00 ∧ t.f = 0x51 ∧ t.pc = 0x8003 ∧ t.mw = 0x9005 ∧ t.r = 0x02 ∧
      t.tacts = 19)) = true := by decide +kernel

/-- V44-1 (R260): ADD HL,DE: carry out, H from bit 11. -/
theorem test_V44_1 : one [0x19] { start with h := 0xFF, l := 0xFF, d := 0x00, e := 0x01 }
    (fun t => decide (t.a = 0x00 ∧ t.f = 0x11 ∧ t.h = 0x00 ∧ t.l = 0x00 ∧ t.pc = 0x8001 ∧ t.r = 0x01 ∧
      t.tacts = 11)) = true := by decide +kernel

/-- V44-2 (R260): ADD HL,BC: H; S, Z, PV kept. -/
theorem test_V44_2 : one [0x09] { start with h := 0x0F, l := 0xFF, b := 0x00, c := 0x01, f := 0xC4 }
    (fun t => decide (t.a = 0x00 ∧ t.f = 0xD4 ∧ t.h = 0x10 ∧ t.l = 0x00 ∧ t.pc = 0x8001 ∧ t.mw = 0x1000 ∧
      t.r = 0x01 ∧ t.tacts = 11)) = true := by decide +kernel

/-- V44-3 (R261): ADC HL,BC: 0x7FFF+0+1 signed overflow. -/
theorem test_V44_3 : one [0xED, 0x4A] { start with h := 0x7F, l := 0xFF, b := 0x00, c := 0x00, f := 0x01 }
    (fun t => decide (t.a = 0x00 ∧ t.f = 0x94 ∧ t.h = 0x80 ∧ t.l = 0x00 ∧ t.pc = 0x8002 ∧ t.mw = 0x8000 ∧
      t.r = 0x02 ∧ t.tacts = 15)) = true := by decide +kernel

/-- V44-6 (R262): SBC HL,DE: signed overflow. -/
theorem test_V44_6 : one [0xED, 0x52] { start with h := 0x80, l := 0x00, d := 0x00, e := 0x01, f := 0x00 }
    (fun t => decide (t.a = 0x00 ∧ t.f = 0x3E ∧ t.h = 0x7F ∧ t.l = 0xFF ∧ t.pc = 0x8002 ∧ t.mw = 0x8001 ∧
      t.r = 0x02 ∧ t.tacts = 15)) = true := by decide +kernel

/-- V44-7 (R262): SBC HL,SP: borrow. -/
theorem test_V44_7 : one [0xED, 0x72] { start with h := 0x00, l := 0x00, sp := 0x0001, f := 0x00 }
    (fun t => decide (t.a = 0x00 ∧ t.f = 0xBB ∧ t.h = 0xFF ∧ t.l = 0xFF ∧ t.pc = 0x8002 ∧ t.mw = 0x0001 ∧
      t.r = 0x02 ∧ t.tacts = 15)) = true := by decide +kernel

/-- V44-8 (R263): ADD IX,IX: carry. -/
theorem test_V44_8 : one [0xDD, 0x29] { start with ix := 0x8000 }
    (fun t => decide (t.a = 0x00 ∧ t.f = 0x01 ∧ t.ix = 0x0000 ∧ t.pc = 0x8002 ∧ t.mw = 0x8001 ∧ t.r = 0x02 ∧
      t.tacts = 15)) = true := by decide +kernel

/-- V44-9 (R264): INC SP: wraps, flags unchanged. -/
theorem test_V44_9 : one [0x33] { start with sp := 0xFFFF, f := 0xFF }
    (fun t => decide (t.sp = 0x0000 ∧ t.pc = 0x8001 ∧ t.r = 0x01 ∧ t.tacts = 6)) = true := by decide +kernel

/-- V44-10 (R266): DEC BC: wraps. -/
theorem test_V44_10 : one [0x0B] { start with b := 0x00, c := 0x00 }
    (fun t => decide (t.b = 0xFF ∧ t.c = 0xFF ∧ t.pc = 0x8001 ∧ t.r = 0x01 ∧
      t.tacts = 6)) = true := by decide +kernel

/-- V45-1 (R280): RLCA: C, S Z PV kept. -/
theorem test_V45_1 : one [0x07] { start with a := 0x80, f := 0xC4 }
    (fun t => decide (t.a = 0x01 ∧ t.f = 0xC5 ∧ t.pc = 0x8001 ∧ t.r = 0x01 ∧
      t.tacts = 4)) = true := by decide +kernel

/-- V45-2 (R281): RLA: bit 7 to C, old C to bit 0. -/
theorem test_V45_2 : one [0x17] { start with a := 0x80, f := 0x00 }
    (fun t => decide (t.a = 0x00 ∧ t.f = 0x01 ∧ t.pc = 0x8001 ∧ t.r = 0x01 ∧
      t.tacts = 4)) = true := by decide +kernel

/-- V45-3 (R282): RRCA. -/
theorem test_V45_3 : one [0x0F] { start with a := 0x01 }
    (fun t => decide (t.a = 0x80 ∧ t.f = 0x01 ∧ t.pc = 0x8001 ∧ t.r = 0x01 ∧
      t.tacts = 4)) = true := by decide +kernel

/-- V45-4 (R283): RRA: old C into bit 7. -/
theorem test_V45_4 : one [0x1F] { start with a := 0x01, f := 0x01 }
    (fun t => decide (t.a = 0x80 ∧ t.f = 0x01 ∧ t.pc = 0x8001 ∧ t.r = 0x01 ∧
      t.tacts = 4)) = true := by decide +kernel

/-- V45-5 (R285): RLC B. -/
theorem test_V45_5 : one [0xCB, 0x00] { start with b := 0x81 }
    (fun t => decide (t.a = 0x00 ∧ t.f = 0x05 ∧ t.b = 0x03 ∧ t.c = 0x00 ∧ t.pc = 0x8002 ∧ t.r = 0x02 ∧
      t.tacts = 8)) = true := by decide +kernel

/-- V45-6 (R287): RL C: zero result, C=1. -/
theorem test_V45_6 : one [0xCB, 0x11] { start with c := 0x80, f := 0x00 }
    (fun t => decide (t.a = 0x00 ∧ t.f = 0x45 ∧ t.b = 0x00 ∧ t.c = 0x00 ∧ t.pc = 0x8002 ∧ t.r = 0x02 ∧
      t.tacts = 8)) = true := by decide +kernel

/-- V45-7 (R288): RR D. -/
theorem test_V45_7 : one [0xCB, 0x1A] { start with d := 0x01, f := 0x01 }
    (fun t => decide (t.a = 0x00 ∧ t.f = 0x81 ∧ t.d = 0x80 ∧ t.e = 0x00 ∧ t.pc = 0x8002 ∧ t.r = 0x02 ∧
      t.tacts = 8)) = true := by decide +kernel

/-- V45-8 (R289): SLA E: zero, C. -/
theorem test_V45_8 : one [0xCB, 0x23] { start with e := 0x80 }
    (fun t => decide (t.a = 0x00 ∧ t.f = 0x45 ∧ t.d = 0x00 ∧ t.e = 0x00 ∧ t.pc = 0x8002 ∧ t.r = 0x02 ∧
      t.tacts = 8)) = true := by decide +kernel

/-- V45-9 (R290): SRA H: sign kept. -/
theorem test_V45_9 : one [0xCB, 0x2C] { start with h := 0x80 }
    (fun t => decide (t.a = 0x00 ∧ t.f = 0x84 ∧ t.h = 0xC0 ∧ t.l = 0x00 ∧ t.pc = 0x8002 ∧ t.r = 0x02 ∧
      t.tacts = 8)) = true := by decide +kernel

/-- V45-10 (R291): SLL L: bit 0 set. -/
theorem test_V45_10 : one [0xCB, 0x35] { start with l := 0x80 }
    (fun t => decide (t.a = 0x00 ∧ t.f = 0x01 ∧ t.h = 0x00 ∧ t.l = 0x01 ∧ t.pc = 0x8002 ∧ t.r = 0x02 ∧
      t.tacts = 8)) = true := by decide +kernel

/-- V45-11 (R292): SRL A: zero, C. -/
theorem test_V45_11 : one [0xCB, 0x3F] { start with a := 0x01 }
    (fun t => decide (t.a = 0x00 ∧ t.f = 0x45 ∧ t.pc = 0x8002 ∧ t.r = 0x02 ∧
      t.tacts = 8)) = true := by decide +kernel

/-- V45-12 (R285): RLC (HL). -/
theorem test_V45_12 : one [0xCB, 0x06] { start.load 0x9000 0x80 with h := 0x90, l := 0x00 }
    (fun t => decide (t.a = 0x00 ∧ t.f = 0x01 ∧ t.pc = 0x8002 ∧ t.r = 0x02 ∧ t.tacts = 15 ∧
      t.peek 0x9000 = 0x01)) = true := by decide +kernel

/-- V45-13 (R285): RLC (IX+1) with copy to B. -/
theorem test_V45_13 : one [0xDD, 0xCB, 0x01, 0x00] { start.load 0x9001 0x80 with ix := 0x9000 }
    (fun t => decide (t.a = 0x00 ∧ t.f = 0x01 ∧ t.b = 0x01 ∧ t.c = 0x00 ∧ t.pc = 0x8004 ∧ t.mw = 0x9001 ∧
      t.r = 0x02 ∧ t.tacts = 23 ∧ t.peek 0x9001 = 0x01)) = true := by decide +kernel

/-- V45-14 (R292): SRL (IY+1), no copy. -/
theorem test_V45_14 : one [0xFD, 0xCB, 0x01, 0x3E] { start.load 0x9001 0x01 with iy := 0x9000 }
    (fun t => decide (t.a = 0x00 ∧ t.f = 0x45 ∧ t.pc = 0x8004 ∧ t.mw = 0x9001 ∧ t.r = 0x02 ∧ t.tacts = 23 ∧
      t.peek 0x9001 = 0x00)) = true := by decide +kernel

/-- V45-15 (R293): RLD. -/
theorem test_V45_15 : one [0xED, 0x6F] { start.load 0x9000 0x34 with a := 0x12, h := 0x90, l := 0x00 }
    (fun t => decide (t.a = 0x13 ∧ t.f = 0x00 ∧ t.pc = 0x8002 ∧ t.mw = 0x9001 ∧ t.r = 0x02 ∧ t.tacts = 18 ∧
      t.peek 0x9000 = 0x42)) = true := by decide +kernel

/-- V45-16 (R294): RRD. -/
theorem test_V45_16 : one [0xED, 0x67] { start.load 0x9000 0x34 with a := 0x12, h := 0x90, l := 0x00 }
    (fun t => decide (t.a = 0x14 ∧ t.f = 0x04 ∧ t.pc = 0x8002 ∧ t.mw = 0x9001 ∧ t.r = 0x02 ∧ t.tacts = 18 ∧
      t.peek 0x9000 = 0x23)) = true := by decide +kernel

/-- V46-1 (R310): BIT 7,B: zero. -/
theorem test_V46_1 : one [0xCB, 0x78] { start with b := 0x00 }
    (fun t => decide (t.a = 0x00 ∧ t.f = 0x54 ∧ t.pc = 0x8002 ∧ t.r = 0x02 ∧
      t.tacts = 8)) = true := by decide +kernel

/-- V46-2 (R310): BIT 7,A: S, Y, X from A, C kept. -/
theorem test_V46_2 : one [0xCB, 0x7F] { start with a := 0xFF, f := 0x01 }
    (fun t => decide (t.a = 0xFF ∧ t.f = 0xB9 ∧ t.pc = 0x8002 ∧ t.r = 0x02 ∧
      t.tacts = 8)) = true := by decide +kernel

/-- V46-3 (R311): BIT 0,(HL): Y/X from MW high byte. -/
theorem test_V46_3 : one [0xCB, 0x46] { start.load 0x9000 0x01 with h := 0x90, l := 0x00, mw := 0x2800 }
    (fun t => decide (t.a = 0x00 ∧ t.f = 0x38 ∧ t.pc = 0x8002 ∧ t.r = 0x02 ∧
      t.tacts = 12)) = true := by decide +kernel

/-- V46-4 (R312): BIT 7,(IX+0x10): Y/X from address high byte 0x29. -/
theorem test_V46_4 : one [0xDD, 0xCB, 0x10, 0x7E] { start with ix := 0x28F0 }
    (fun t => decide (t.a = 0x00 ∧ t.f = 0x7C ∧ t.pc = 0x8004 ∧ t.mw = 0x2900 ∧ t.r = 0x02 ∧
      t.tacts = 20)) = true := by decide +kernel

/-- V46-5 (R313): SET 3,C. -/
theorem test_V46_5 : one [0xCB, 0xD9] { start with c := 0x00 }
    (fun t => decide (t.b = 0x00 ∧ t.c = 0x08 ∧ t.pc = 0x8002 ∧ t.r = 0x02 ∧
      t.tacts = 8)) = true := by decide +kernel

/-- V46-6 (R318): RES 1,(IX+1) with copy to A. -/
theorem test_V46_6 : one [0xDD, 0xCB, 0x01, 0x8F] { start.load 0x9001 0xFF with ix := 0x9000 }
    (fun t => decide (t.a = 0xFD ∧ t.f = 0x00 ∧ t.pc = 0x8004 ∧ t.mw = 0x9001 ∧ t.r = 0x02 ∧ t.tacts = 23 ∧
      t.peek 0x9001 = 0xFD)) = true := by decide +kernel

/-- V47-1 (R330): JP nn. -/
theorem test_V47_1 : one [0xC3, 0x34, 0x12] start
    (fun t => decide (t.pc = 0x1234 ∧ t.mw = 0x1234 ∧ t.r = 0x01 ∧ t.tacts = 10)) = true := by decide +kernel

/-- V47-2 (R331): JP NZ,nn not taken: MW still nn. -/
theorem test_V47_2 : one [0xC2, 0x34, 0x12] { start with f := 0x40 }
    (fun t => decide (t.pc = 0x8003 ∧ t.mw = 0x1234 ∧ t.r = 0x01 ∧ t.tacts = 10)) = true := by decide +kernel

/-- V47-3 (R332): JR -2: jumps to itself. -/
theorem test_V47_3 : one [0x18, 0xFE] start
    (fun t => decide (t.pc = 0x8000 ∧ t.mw = 0x8000 ∧ t.r = 0x01 ∧ t.tacts = 12)) = true := by decide +kernel

/-- V47-4 (R333): JR NZ not taken. -/
theorem test_V47_4 : one [0x20, 0x05] { start with f := 0x40 }
    (fun t => decide (t.pc = 0x8002 ∧ t.r = 0x01 ∧ t.tacts = 7)) = true := by decide +kernel

/-- V47-5 (R333): JR Z,-128. -/
theorem test_V47_5 : one [0x28, 0x80] { start with f := 0x40 }
    (fun t => decide (t.pc = 0x7F82 ∧ t.mw = 0x7F82 ∧ t.r = 0x01 ∧ t.tacts = 12)) = true := by decide +kernel

/-- V47-6 (R336): DJNZ with B=1: not taken. -/
theorem test_V47_6 : one [0x10, 0xFE] { start with b := 0x01 }
    (fun t => decide (t.b = 0x00 ∧ t.c = 0x00 ∧ t.pc = 0x8002 ∧ t.r = 0x01 ∧
      t.tacts = 8)) = true := by decide +kernel

/-- V47-7 (R336): DJNZ with B=0: B=0xFF, taken. -/
theorem test_V47_7 : one [0x10, 0xFE] { start with b := 0x00 }
    (fun t => decide (t.b = 0xFF ∧ t.c = 0x00 ∧ t.pc = 0x8000 ∧ t.mw = 0x8000 ∧ t.r = 0x01 ∧
      t.tacts = 13)) = true := by decide +kernel

/-- V47-8 (R337): CALL nn. -/
theorem test_V47_8 : one [0xCD, 0x00, 0x90] { start with sp := 0xA000 }
    (fun t => decide (t.sp = 0x9FFE ∧ t.pc = 0x9000 ∧ t.mw = 0x9000 ∧ t.r = 0x01 ∧ t.tacts = 17 ∧
      t.peek 0x9FFE = 0x03 ∧ t.peek 0x9FFF = 0x80)) = true := by decide +kernel

/-- V47-9 (R338): CALL C,nn not taken. -/
theorem test_V47_9 : one [0xDC, 0x00, 0x90] { start with sp := 0xA000, f := 0x00 }
    (fun t => decide (t.pc = 0x8003 ∧ t.mw = 0x9000 ∧ t.r = 0x01 ∧ t.tacts = 10)) = true := by decide +kernel

/-- V47-10 (R339): RET. -/
theorem test_V47_10 : one [0xC9] { (start.load 0x9FFE 0x03).load 0x9FFF 0x80 with sp := 0x9FFE }
    (fun t => decide (t.sp = 0xA000 ∧ t.pc = 0x8003 ∧ t.mw = 0x8003 ∧ t.r = 0x01 ∧
      t.tacts = 10)) = true := by decide +kernel

/-- V47-11 (R340): RET C taken. -/
theorem test_V47_11 : one [0xD8] { (start.load 0x9FFE 0x03).load 0x9FFF 0x80 with sp := 0x9FFE, f := 0x01 }
    (fun t => decide (t.sp = 0xA000 ∧ t.pc = 0x8003 ∧ t.mw = 0x8003 ∧ t.r = 0x01 ∧
      t.tacts = 11)) = true := by decide +kernel

/-- V47-13 (R343): RST 38h. -/
theorem test_V47_13 : one [0xFF] { start with sp := 0xA000 }
    (fun t => decide (t.sp = 0x9FFE ∧ t.pc = 0x0038 ∧ t.mw = 0x0038 ∧ t.r = 0x01 ∧ t.tacts = 11 ∧
      t.peek 0x9FFE = 0x01 ∧ t.peek 0x9FFF = 0x80)) = true := by decide +kernel

/-- V47-14 (R334): JP (HL): no memory read. -/
theorem test_V47_14 : one [0xE9] { start with h := 0x12, l := 0x34 }
    (fun t => decide (t.pc = 0x1234 ∧ t.r = 0x01 ∧ t.tacts = 4)) = true := by decide +kernel

/-- V47-16 (R342): RETN: IFF1 <- IFF2. -/
theorem test_V47_16 : one [0xED, 0x45] { start.load 0x9FFF 0x70 with sp := 0x9FFE, iff1 := false, iff2 := true }
    (fun t => decide (t.sp = 0xA000 ∧ t.pc = 0x7000 ∧ t.mw = 0x7000 ∧ t.r = 0x02 ∧ t.iff1 = true ∧
      t.tacts = 14)) = true := by decide +kernel

/-- V48-3 (R362): IN (C): flags only. -/
theorem test_V48_3 : one [0xED, 0x70] { start with b := 0x00, c := 0xFE }
    (fun t => decide (t.pc = 0x8002 ∧ t.mw = 0x00FF ∧ t.r = 0x02 ∧ t.tacts = 12)) = true := by decide +kernel

/-- V48-4 (R363): OUT (n),A. -/
theorem test_V48_4 : one [0xD3, 0xFE] { start with a := 0x07 }
    (fun t => decide (t.pc = 0x8002 ∧ t.mw = 0x07FF ∧ t.r = 0x01 ∧ t.tacts = 11 ∧
      t.ports = [.output 0x07FE 0x07 7])) = true := by decide +kernel

/-- V48-5 (R364): OUT (C),D. -/
theorem test_V48_5 : one [0xED, 0x51] { start with b := 0x12, c := 0xFE, d := 0x55 }
    (fun t => decide (t.pc = 0x8002 ∧ t.mw = 0x12FF ∧ t.r = 0x02 ∧ t.tacts = 12 ∧
      t.ports = [.output 0x12FE 0x55 8])) = true := by decide +kernel

/-- V48-8 (R371): OUTI: B decremented before the port write. -/
theorem test_V48_8 : one [0xED, 0xA3] { start.load 0x9000 0x80 with b := 0x01, c := 0x10, h := 0x90, l := 0x00 }
    (fun t => decide (t.a = 0x00 ∧ t.f = 0x42 ∧ t.b = 0x00 ∧ t.c = 0x10 ∧ t.h = 0x90 ∧ t.l = 0x01 ∧
      t.pc = 0x8002 ∧ t.mw = 0x0011 ∧ t.r = 0x02 ∧ t.tacts = 16 ∧
      t.ports = [.output 0x0010 0x80 12])) = true := by decide +kernel

/-- V48-10 (R373): OUTD. -/
theorem test_V48_10 : one [0xED, 0xAB] { start.load 0x9000 0xFF with b := 0x01, c := 0x10, h := 0x90, l := 0x00 }
    (fun t => decide (t.a = 0x00 ∧ t.f = 0x57 ∧ t.b = 0x00 ∧ t.c = 0x10 ∧ t.h = 0x8F ∧ t.l = 0xFF ∧
      t.pc = 0x8002 ∧ t.mw = 0x000F ∧ t.r = 0x02 ∧ t.tacts = 16 ∧
      t.ports = [.output 0x0010 0xFF 12])) = true := by decide +kernel

/-- V49-1 (R380): NOP: R bit 7 kept. -/
theorem test_V49_1 : one [0x00] { start with r := 0xFF }
    (fun t => decide (t.pc = 0x8001 ∧ t.r = 0x80 ∧ t.tacts = 4)) = true := by decide +kernel

/-- V49-3 (R382): DI. -/
theorem test_V49_3 : one [0xF3] { start with iff1 := true, iff2 := true }
    (fun t => decide (t.pc = 0x8001 ∧ t.r = 0x01 ∧ t.iff1 = false ∧ t.iff2 = false ∧
      t.tacts = 4)) = true := by decide +kernel

/-- V49-4 (R383): EI. -/
theorem test_V49_4 : one [0xFB] start
    (fun t => decide (t.pc = 0x8001 ∧ t.r = 0x01 ∧ t.iff1 = true ∧ t.iff2 = true ∧ t.intBlocked = true ∧
      t.tacts = 4)) = true := by decide +kernel

/-- V49-5 (R386): IM 2. -/
theorem test_V49_5 : one [0xED, 0x5E] start
    (fun t => decide (t.pc = 0x8002 ∧ t.r = 0x02 ∧ t.im = .im2 ∧ t.tacts = 8)) = true := by decide +kernel

/-- V49-6 (R384): IM 0 via ED 6E. -/
theorem test_V49_6 : one [0xED, 0x6E] { start with im := .im2 }
    (fun t => decide (t.pc = 0x8002 ∧ t.r = 0x02 ∧ t.im = .im0 ∧ t.tacts = 8)) = true := by decide +kernel

/-- V49-8 (R388): undefined ED opcode. -/
theorem test_V49_8 : one [0xED, 0x00] start
    (fun t => decide (t.pc = 0x8002 ∧ t.r = 0x02 ∧ t.tacts = 8)) = true := by decide +kernel

/-- V49-9 (R389): ignored prefix. -/
theorem test_V49_9 : one [0xDD, 0x00] start
    (fun t => decide (t.pc = 0x8002 ∧ t.r = 0x02 ∧ t.tacts = 8)) = true := by decide +kernel

/-! ### Ports: what the port device answers is free, the rest is not -/

/-- V48-1 (R360): IN A,(n), port A ++ n. -/
theorem test_V48_1 : one [0xDB, 0xFE] { start with a := 0x12 }
    (fun t => decide (t.pc = 0x8002 ∧ t.mw = 0x12FF ∧ t.f = 0 ∧ t.tacts = 11 ∧ t.ports.length = 1)) = true := by
  decide +kernel

/-- V48-2 (R361): IN B,(C), `C` and `MW`. -/
theorem test_V48_2 : one [0xED, 0x40] { start with b := 0x12, c := 0xFE }
    (fun t => decide (t.pc = 0x8002 ∧ t.c = 0xFE ∧ t.mw = 0x12FF ∧ t.tacts = 12)) = true := by decide +kernel

/-- V48-6 (R367): INI counts B, steps HL, and leaves the old BC + 1 in MW. -/
theorem test_V48_6 : one [0xED, 0xA2] { start with b := 0x02, c := 0x10, h := 0x90 }
    (fun t => decide (t.b = 0x01 ∧ t.h = 0x90 ∧ t.l = 0x01 ∧ t.mw = 0x0211 ∧ t.pc = 0x8002 ∧ t.tacts = 16)) = true := by
  decide +kernel

/-- V48-7 (R368): INIR, last iteration. -/
theorem test_V48_7 : one [0xED, 0xB2] { start with b := 0x01, c := 0x10, h := 0x90 }
    (fun t => decide (t.b = 0x00 ∧ t.mw = 0x0111 ∧ t.pc = 0x8002 ∧ t.tacts = 16)) = true := by decide +kernel

/-! ### The step, the device, reset and interrupts -/

/-- L1.6 (70_reset_and_hazards.md R454): `LD SP,A926H` after reset, as a machine step. -/
theorem test_ld_sp_from_reset :
    (match step (State.reset.loadBytes 0 [0x31, 0x26, 0xA9]) with
      | .next t => decide (t.sp = 0xA926 ∧ t.pc = 0x0003 ∧ t.tacts = 10 ∧ t.mw = 0 ∧ t.r = 1)
      | _ => false) = true := by decide +kernel

/-- L1.2-a (R450): the reset action. -/
theorem test_reset_action :
    one [] { start with
      tacts := 1000, reqReset := true, ix := 0x1111, iy := 0x2222, hlAlt := 0x3333, im := .im2, iff1 := true, iff2 := true
      halted := true, reqInt := true }
      (fun t => decide (t.pc = 0 ∧ t.ix = 0x1111 ∧ t.iy = 0x2222 ∧ t.hlAlt = 0x3333 ∧ t.im = .im0 ∧ t.iff1 = false ∧
        t.halted = false ∧ t.reqInt = false ∧ t.reqReset = false ∧ t.tacts = 1000)) = true := by decide +kernel

/-- L1.7-d (R405): a halted step keeps bit 7 of R. -/
theorem test_halted_step : one [] { start with halted := true, r := 0xFF }
    (fun t => decide (t.pc = 0x8000 ∧ t.r = 0x80 ∧ t.tacts = 4 ∧ t.halted = true)) = true := by decide +kernel

/-- L1.7-a (R381): HALT. -/
theorem test_halt : one [0x76] start
    (fun t => decide (t.pc = 0x8001 ∧ t.r = 0x01 ∧ t.tacts = 4 ∧ t.halted = true)) = true := by decide +kernel

/-- L1.7-g (R410): an interrupt out of HALT with HALT_PC = SELF pushes the address after the HALT. -/
theorem test_interrupt_leaves_halt :
    one [] { start with
      cfg := { start.cfg with haltPc := .self }, halted := true, iff1 := true, iff2 := true, im := .im1, sp := 0xA000
      reqInt := true }
      (fun t => decide (t.pc = 0x0038 ∧ t.sp = 0x9FFE ∧ t.peek 0x9FFE = 0x01 ∧ t.peek 0x9FFF = 0x80 ∧ t.mw = 0x0038 ∧
        t.iff1 = false ∧ t.halted = false ∧ t.tacts = 13)) = true := by decide +kernel

/-- R412: mode 2 enters at the word at I ++ 0xFF, in 19 tacts. -/
theorem test_interrupt_mode2 :
    one [] { (start.load 0x90FF 0x34).load 0x9100 0x12 with iff1 := true, im := .im2, i := 0x90, sp := 0xA000, reqInt := true }
      (fun t => decide (t.pc = 0x1234 ∧ t.mw = 0x1234 ∧ t.tacts = 19)) = true := by decide +kernel

/-- R413: mode 0 with the bus byte of RST 20H; and with a bus byte that is no RST opcode there is no step. -/
theorem test_interrupt_mode0 :
    one [] { start with cfg := { start.cfg with intBusByte := 0xE7 }, iff1 := true, sp := 0xA000, reqInt := true }
      (fun t => decide (t.pc = 0x0020 ∧ t.tacts = 13)) = true := by decide +kernel

theorem test_interrupt_mode0_no_rst :
    ({ start with cfg := { start.cfg with intBusByte := 0x00 }, iff1 := true, reqInt := true } : State).engineStep =
      .refused (.busByteIsNoRst 0x00) := by rfl

/-- R414: the NMI keeps IFF2 and the maskable request. -/
theorem test_nmi : one [] { start with iff1 := true, iff2 := true, sp := 0xA000, reqNmi := true, reqInt := true }
    (fun t => decide (t.pc = 0x0066 ∧ t.iff1 = false ∧ t.iff2 = true ∧ t.reqInt = true ∧ t.reqNmi = false ∧
      t.peek 0x9FFF = 0x80 ∧ t.tacts = 11)) = true := by decide +kernel

/-- L1.4-b, -c, -e, -f (R421, R422): the ends of the interrupt window. -/
theorem test_device_before : start.checkForInterrupt 99 = start := by rfl
theorem test_device_first : (start.checkForInterrupt 100).reqInt = true := by decide +kernel
theorem test_device_last : (start.checkForInterrupt 123).reqInt = true := by decide +kernel
theorem test_device_after :
    (start.checkForInterrupt 124).devRevoked = true ∧ ((start.checkForInterrupt 100).checkForInterrupt 124).reqInt = false := by
  decide +kernel

/-- L1.5 (R72): the default contention at its edges. -/
theorem test_contention :
    [14334, 14335, 14340, 14341, 14343, 14462, 14463, 14559, 57119, 57343].map (contentionAt Config.base.contention) =
      [0, 6, 1, 0, 6, 0, 0, 6, 6, 0] := by decide +kernel

/-- R72 (period 8): over scanlines of 228 tacts the phase runs on from line to line, or begins anew on each. -/
theorem test_contention_phase :
    let g : ContentionBand :=
      { start := 100, lines := 2, lineTacts := 228, activeTacts := 128, phaseStep := 228, pattern := [6, 5, 4, 3, 2, 1, 0, 0] }
    [100, 227, 228, 328, 330, 455, 456].map (contentionAt [g]) = [6, 0, 0, 2, 0, 3, 0] ∧
    contentionAt [{ g with phaseStep := 0 }] 328 = 6 := by decide +kernel

/-- R472: a NOP in the contended page, begun at each tact of the table. -/
theorem test_contended_fetch :
    [(14334, 4), (14335, 10), (14336, 9), (14341, 4), (14463, 4), (14559, 10)].all (fun (x, n) =>
      one [0x00] { State.reset with pc := 0x4000, tacts := x } fun t => decide (t.tacts = x + n)) = true := by decide +kernel

/-- R472: LD A,(HL) and INC (HL) at 0x8000 with HL = 0x4000. -/
theorem test_contended_memory :
    let s : State := { State.reset with pc := 0x8000, h := 0x40, tacts := 14331 }
    one [0x7E] s (fun t => decide (t.tacts = 14331 + 13)) = true ∧ one [0x34] s (fun t => decide (t.tacts = 14331 + 21)) = true := by
  decide +kernel

/-- R472: OUT (FE),A waits and OUT (FF),A does not; the event carries the tact after the wait. -/
theorem test_contended_port :
    let s : State := { State.reset with pc := 0x8000, a := 0x07, tacts := 14328 }
    one [0xD3, 0xFE] s (fun t => decide (t.tacts = 14328 + 17 ∧ t.ports = [.output 0x07FE 0x07 14341])) = true ∧
    one [0xD3, 0xFF] s (fun t => decide (t.tacts = 14328 + 11 ∧ t.ports = [.output 0x07FF 0x07 14335])) = true := by
  decide +kernel

/-- R413 and R440: the debug hook refuses mode 3. -/
theorem test_set_interrupt_mode : start.setInterruptMode 3 = .refused (.badInterruptMode 3) := by rfl

/-! ### Witnesses: a state and operands that meet the hypotheses of each statement -/

theorem test_witness_DecodeEncode :
    (Instr.bitMemIx 7 3 0xFF).wf = true ∧ (Instr.bitMemIx 7 3 0xFF).isPrefixRow = false := by decide

/-- A state at the start of LD SP,A926H, ready to run it. -/
def ready : State := State.reset.loadBytes 0 [0x31, 0x26, 0xA9]

theorem test_witness_StepRunsDecoded :
    decode [ready.peek ready.pc, ready.peek (ready.pc + 1), ready.peek (ready.pc + 2), ready.peek (ready.pc + 3)] =
      .ok (.ldDdNn .sp 0xA926, 3) ∧
    usable ready.cfg = true ∧ ready.reqReset = false ∧ ready.reqNmi = false ∧ ready.halted = false ∧
    ready.deviceStep.acceptsInt = false ∧
    usable { ready.cfg with frameTacts := 123 } = false := ⟨by rfl, by decide +kernel⟩

theorem test_witness_EnginePriority :
    ({ start with reqReset := true, reqNmi := true, reqInt := true } : State).reqReset = true ∧
    ({ start with reqNmi := true, reqInt := true, iff1 := true } : State).reqNmi = true ∧
    ({ start with reqInt := true, iff1 := true } : State).acceptsInt = true ∧
    ({ start with reqInt := true, iff1 := true, intBlocked := true, halted := true } : State).acceptsInt = false := by
  decide

theorem test_witness_ResetAction : ({ start with reqReset := true } : State).reqReset = true := by rfl

theorem test_witness_HaltedStep :
    let s : State := { start with halted := true, reqInt := true, iff1 := true, intBlocked := true }
    s.halted = true ∧ s.reqReset = false ∧ s.reqNmi = false ∧
      ¬ (s.reqInt = true ∧ s.iff1 = true ∧ s.intBlocked = false) := by decide

theorem test_witness_NmiAccepted :
    let s : State := { start.load 0x9FFF 0x55 with reqNmi := true, halted := true }
    s.mem.wf = true ∧ s.reqReset = false ∧ s.reqNmi = true ∧ s.Uncontended := by
  refine ⟨by decide +kernel, rfl, rfl, ?_⟩
  intro ft
  show contentionAt start.cfg.contention ft = 0
  simp [contentionAt, start]

theorem test_uncontended : start.Uncontended := by
  intro ft
  simp [contentionAt, start]

theorem test_witness_InterruptAccepted :
    let s : State := { start with reqInt := true, iff1 := true }
    s.mem.wf = true ∧ s.reqReset = false ∧ s.reqNmi = false ∧ s.reqInt = true ∧ s.iff1 = true ∧ s.intBlocked = false ∧
    s.im = .im0 ∧ s.cfg.intBusByte &&& 0xC7 = 0xC7 ∧ (0x38 : Byte) &&& 0xC7 ≠ 0xC7 ∧
    ({ s with im := .im1 } : State).im = .im1 ∧ ({ s with im := .im2 } : State).im = .im2 := by decide +kernel

theorem test_witness_EiDelay :
    let s := { start with reqInt := true }.loadBytes 0x8000 [0xFB, 0x00]
    s.instrAt = .ei ∧ s.halted = false ∧ s.reqReset = false ∧ s.reqNmi = false ∧ s.acceptsInt = false ∧
    coreOf ({ s with pc := 0x8001 } : State).instrAt ≠ .ei ∧
    isRedundant ({ s with pc := 0x8001 } : State).instrAt = false := by decide +kernel

theorem test_witness_BlockedOnlyBy : ∃ t, (start.loadBytes 0x8000 [0xFD, 0xFB]).decodeAndExecute = .next t := ⟨_, rfl⟩

theorem test_witness_RedundantPrefixStep :
    let s := start.loadBytes 0x8000 [0xFD, 0xED]
    (s.mem.wf = true ∧ s.prefixMode = .none ∧ s.indexMode = .none ∧ s.heldDisp = none) ∧
    s.peek s.pc = 0xFD ∧ s.peek (s.pc + 1) = 0xED := by decide +kernel

/-- Each clause of the device's rule at the edges of the window, and both sides of a frame change. -/
theorem test_witness_InterruptDevice :
    ({ start with devRevoked := true } : State).devRevoked = true ∧ start.devRevoked = false ∧
    99 < start.cfg.interruptTact ∧ start.cfg.interruptTact ≤ 100 ∧
    123 ≤ start.cfg.interruptTact + start.cfg.longestOpTacts ∧
    start.cfg.interruptTact + start.cfg.longestOpTacts < 124 ∧
    ({ start with devRaised := true } : State).devRaised = true ∧ start.devRaised = false ∧
    start.frameIndex = start.devFrame ∧
    ({ start with tacts := 69888 } : State).frameIndex ≠ start.devFrame := by decide +kernel

theorem test_witness_OncePerFrame :
    let s : State := { ready with devRaised := true, tacts := 101 }
    (∃ t, step s = .next t) ∧ s.frameIndex = s.devFrame ∧ s.reqReset = false ∧ s.devRaised = true ∧
    ({ s with devRevoked := true } : State).devRevoked = true := ⟨⟨_, rfl⟩, by decide +kernel⟩

theorem test_witness_RequestBits : ∃ t, (start.loadBytes 0x8000 [0x76]).engineStep = .next t := ⟨_, rfl⟩

theorem test_witness_RomAndConfigFixed :
    (∃ t, step ready = .next t) ∧ ready.isRom 0x3FFF = true ∧ ready.isRom 0x4000 = false := ⟨⟨_, rfl⟩, by decide +kernel⟩

theorem test_witness_InvStep : ready.Inv ∧ ∃ t, step ready = .next t :=
  ⟨by unfold State.Inv; decide +kernel, _, rfl⟩

theorem test_witness_Contention :
    start.contendedAddr 0x8000 = false ∧ start.contendedAddr 0x4000 = true ∧ start.contendedPort 0x8001 = false ∧
    start.contendedPort 0x8000 = true ∧
    ∃ g, Config.base.contention = [g] ∧ 14334 < g.start ∧ g.start + g.lines * g.lineTacts ≤ 57343 ∧
      (128 < g.lineTacts ∧ g.activeTacts ≤ 128) ∧ 191 < g.lines ∧ 119 + 8 < g.activeTacts ∧ 119 + 8 < g.lineTacts :=
  ⟨by decide +kernel, by decide +kernel, by decide +kernel, by decide +kernel, _, rfl, by decide⟩

theorem test_witness_PortHistory : ∃ t, step (State.reset.loadBytes 0 [0xD3, 0xFE]) = .next t := ⟨_, rfl⟩

/-- The hypotheses of TactsTable, RefreshTable and SequentialPc, at the longest form. -/
theorem test_witness_TactsTable :
    start.Uncontended ∧ (Instr.ldRSetMemIy .a 7 0x80).wf = true ∧ (Instr.ldRSetMemIy .a 7 0x80).isPrefixRow = false ∧
    tactsIn start (.ldRSetMemIy .a 7 0x80) = 23 := ⟨test_uncontended, by decide⟩

theorem test_witness_LongestStep :
    start.Uncontended ∧ (∃ t, (start.loadBytes 0x8000 [0xDD, 0x34, 0x00]).engineStep = .next t) ∧
    isRedundant .redundantIyEd = true := ⟨test_uncontended, ⟨_, rfl⟩, rfl⟩

theorem test_witness_RefreshTable :
    (Instr.ixIgnored .ei).wf = true ∧ (Instr.ixIgnored .ei).isPrefixRow = false ∧ (Instr.ixIgnored .ei) ≠ .ldRefreshA := by
  decide

theorem test_witness_SequentialPc :
    (Instr.ldMemIxN 0x7F 1).wf = true ∧ (Instr.ldMemIxN 0x7F 1).isPrefixRow = false ∧ mayTransfer (.ldMemIxN 0x7F 1) = false ∧
    mayTransfer (.ixIgnored (.jr 0)) = true := by decide

theorem test_witness_PrivateRegisters :
    (Instr.exAfAf).isPrefixRow = false ∧ ∃ t, exec .exAfAf { start with a := 1 } = .next t ∧ t.afAlt ≠ start.afAlt :=
  ⟨rfl, _, rfl, by decide⟩

theorem test_witness_MwOnlyReadByBit :
    (Instr.exSpHl).wf = true ∧ (Instr.exSpHl).isPrefixRow = false ∧ (∀ b, Instr.exSpHl ≠ .bitMemHl b) ∧
    ∃ t, exec .exSpHl start = .next t := ⟨rfl, rfl, fun _ h => (nomatch h), _, rfl⟩

theorem test_witness_ExecTotal : (Instr.edPrefix).wf = true ∧ (Instr.retn 7).wf = true := by decide

theorem test_witness_StepTotal :
    (ready.cfg.interruptTact + ready.cfg.longestOpTacts < ready.cfg.frameTacts ∧
      (ready.im = .im0 → ready.cfg.intBusByte &&& 0xC7 = 0xC7)) ∧
    ¬ (100 + 23 < ({ ready.cfg with frameTacts := 123 } : Config).frameTacts) := by decide +kernel

theorem test_witness_DebugHooks : 2 < 3 := by decide

/-- `s.mem.wf`, the hypothesis of StoreByte, StorePair, PushPop, Exchanges, BlockTransfer, IncDec8, Rotates, SetRes, Calls
and BlockIo, at a state with bytes at both ends of memory. -/
theorem test_witness_memory_form : ((start.load 0x0000 1).load 0xFFFF 0xFF).mem.wf = true := by decide +kernel

theorem test_witness_DaaCorrects :
    let bcd (n : Nat) : Byte := BitVec.ofNat 8 (n / 10 * 16 + n % 10)
    (99 < 100 ∧ 1 < 100) ∧ ({ start with a := 0x99, b := 0x01 } : State).a = bcd 99 ∧
      ({ start with a := 0x99, b := 0x01 } : State).b = bcd 1 := by decide +kernel

theorem test_witness_CallThenReturn :
    let s : State := { start with sp := 0x4002 }
    s.mem.wf = true ∧ s.isRom (s.sp - 1) = false ∧ s.isRom (s.sp - 2) = false := by decide +kernel

theorem test_witness_CpuControl : isRedundant .redundantIxDd = true := by rfl

theorem test_witness_IgnoredPrefix : (Instr.ixIgnored .exDeHl).wf = true ∧ (Instr.ixIgnored .exx).wf = true := by decide

theorem test_witness_PrefixRows :
    (start.load 0x8000 0xCB).peek 0x8000 = 0xCB ∧ (start.load 0x8000 0xED).peek 0x8000 = 0xED ∧
    (start.loadBytes 0x8000 [0xDD, 0xCB]).peek 0x8000 = 0xDD ∧ (start.loadBytes 0x8000 [0xDD, 0xCB]).peek 0x8001 = 0xCB ∧
    (start.loadBytes 0x8000 [0xFD, 0xCB]).peek 0x8000 = 0xFD ∧ (start.loadBytes 0x8000 [0xFD, 0xCB]).peek 0x8001 = 0xCB := by
  decide +kernel

/-- `withFetchWord` places what `decodeTableWord` reads: LDIR, as spec/opcode_table.json numbers it. -/
theorem test_placed_word :
    decodeTableWord 16 0xEDB0 = some .ldir ∧ (State.reset.withFetchWord 16 0xEDB0).instrAt = .ldir := by decide +kernel


end Sys2Proof.Tests
end

section
/-! SUPPORT. What the decoder gives: a well-formed term that is no prefix row (30_encoding.md R106, log 12). The operand
bytes select no cell of a table, so the 256 opcodes of each are checked cell by cell. -/

namespace Sys2Proof

/-- The terms `runTable` gives a meaning: all but the prefix rows and the ignored prefixes (log 12). -/
def Instr.inTables : Instr → Bool
  | .cbPrefix | .ddPrefix | .edPrefix | .fdPrefix | .ixCbPrefix | .iyCbPrefix | .ixIgnored _ | .iyIgnored _ => false
  | _ => true

/-- What the tables of 30_encoding.md hold: well-formed terms that `runTable` gives a meaning. -/
def Instr.isTableEntry (j : Instr) : Bool := j.wf && j.inTables

theorem Instr.inTables_of_prefixFree {j : Instr} (h : j.prefixFree = true) : j.inTables = true := by
  cases j
  case cbPrefix | ddPrefix | edPrefix | fdPrefix | ixCbPrefix | iyCbPrefix | ixIgnored | iyIgnored => cases h
  all_goals rfl

theorem Instr.isPrefixRow_of_inTables {j : Instr} (h : j.inTables = true) : j.isPrefixRow = false := by
  cases j
  case cbPrefix | ddPrefix | edPrefix | fdPrefix | ixCbPrefix | iyCbPrefix => cases h
  all_goals rfl

theorem Instr.isTableEntry_iff {j : Instr} : j.isTableEntry = true ↔ j.wf = true ∧ j.inTables = true :=
  Bool.and_eq_true_iff

/-- A table entry is a well-formed term and no prefix row. -/
theorem Instr.decoded_of_isTableEntry {j : Instr} (h : j.isTableEntry = true) : j.wf = true ∧ j.isPrefixRow = false :=
  (Instr.isTableEntry_iff.mp h).imp_right Instr.isPrefixRow_of_inTables

/-! ### The operand bytes select no cell -/

theorem aluNOf_operand (y : Nat) (n : Byte) :
    (aluNOf y n).isTableEntry = (aluNOf y 0).isTableEntry ∧ (aluNOf y n).prefixFree = (aluNOf y 0).prefixFree := by
  unfold aluNOf
  split <;> exact ⟨rfl, rfl⟩

theorem decodeBase_operands (op b1 b2 : Byte) :
    (decodeBase op b1 b2).isTableEntry = (decodeBase op 0 0).isTableEntry ∧
    (decodeBase op b1 b2).prefixFree = (decodeBase op 0 0).prefixFree := by
  unfold decodeBase
  dsimp only
  repeat' split
  case h_17 => exact aluNOf_operand _ _
  all_goals exact ⟨rfl, rfl⟩

theorem decodeEd_operands (op b1 b2 : Byte) :
    (decodeEd op b1 b2).isTableEntry = (decodeEd op 0 0).isTableEntry := by
  unfold decodeEd
  dsimp only
  repeat' split
  all_goals rfl

theorem decodeIdxCb_operands (k : Idx) (d op : Byte) :
    (decodeIdxCb k d op).isTableEntry = (decodeIdxCb .ix 0 op).isTableEntry := by
  unfold decodeIdxCb
  dsimp only
  cases k <;> repeat' split
  all_goals rfl

theorem decodeXy_operands (k : Idx) (op b1 b2 : Byte) :
    (decodeXy k op b1 b2).all (·.1.isTableEntry) = (decodeXy .ix op 0 0).all (·.1.isTableEntry) ∧
    (decodeXy k op b1 b2).isNone = (decodeXy .ix op 0 0).isNone := by
  unfold decodeXy
  dsimp only
  cases k <;> repeat' split
  all_goals exact ⟨rfl, rfl⟩

/-! ### The tables, cell by cell -/

theorem decodeBase_isTableEntry {op : Byte} (hcb : op ≠ 0xCB) (hdd : op ≠ 0xDD) (hed : op ≠ 0xED) (hfd : op ≠ 0xFD)
    (b1 b2 : Byte) : (decodeBase op b1 b2).isTableEntry = true := by
  rw [(decodeBase_operands op b1 b2).1]
  revert op
  decide

theorem decodeCb_isTableEntry : ∀ op : Byte, (decodeCb op).isTableEntry = true := by decide

theorem decodeEd_isTableEntry (op b1 b2 : Byte) : (decodeEd op b1 b2).isTableEntry = true := by
  rw [decodeEd_operands]
  revert op
  decide

theorem decodeIdxCb_isTableEntry (k : Idx) (d op : Byte) : (decodeIdxCb k d op).isTableEntry = true := by
  rw [decodeIdxCb_operands]
  revert op
  decide

theorem decodeXy_isTableEntry {k : Idx} {op b1 b2 : Byte} {r : Instr × Nat} (h : decodeXy k op b1 b2 = some r) :
    r.1.isTableEntry = true := by
  have hall : (decodeXy k op b1 b2).all (·.1.isTableEntry) = true := by
    rw [(decodeXy_operands k op b1 b2).1]
    clear h
    revert op
    decide
  rwa [h] at hall

/-- The cells `·` of the grid R114 hold opcodes an index prefix does not affect. -/
theorem decodeBase_prefixFree {k : Idx} {op b1 b2 : Byte} (hcb : op ≠ 0xCB) (hdd : op ≠ 0xDD) (hed : op ≠ 0xED)
    (hfd : op ≠ 0xFD) (h : decodeXy k op b1 b2 = none) : (decodeBase op b1 b2).prefixFree = true := by
  have hcell : (decodeXy .ix op 0 0).isNone = true := by rw [← (decodeXy_operands k op b1 b2).2, h]; rfl
  rw [(decodeBase_operands op b1 b2).2]
  clear h
  revert op
  decide

/-! ### The decoder -/

theorem decodeIndexed_decoded (k : Idx) (b1 b2 b3 : Byte) :
    (decodeIndexed k b1 b2 b3).1.wf = true ∧ (decodeIndexed k b1 b2 b3).1.isPrefixRow = false := by
  unfold decodeIndexed
  split
  · cases k <;> exact ⟨rfl, rfl⟩
  split
  · cases k <;> exact ⟨rfl, rfl⟩
  split
  · cases k <;> exact ⟨rfl, rfl⟩
  split
  · exact Instr.decoded_of_isTableEntry (decodeIdxCb_isTableEntry k b2 b3)
  split
  · next h => exact Instr.decoded_of_isTableEntry (decodeXy_isTableEntry h)
  · next hdd hfd hed hcb _ h =>
    have hwf := (Instr.isTableEntry_iff.mp (decodeBase_isTableEntry hcb hdd hed hfd b2 b3)).1
    have hbase := Bool.and_eq_true_iff.mpr ⟨decodeBase_prefixFree hcb hdd hed hfd h, hwf⟩
    cases k <;> exact ⟨hbase, rfl⟩

/-- Whatever the four bytes, the decoder gives a well-formed term that is no prefix row (R106, log 12). -/
theorem decode4_decoded (b0 b1 b2 b3 : Byte) :
    (decode4 b0 b1 b2 b3).1.wf = true ∧ (decode4 b0 b1 b2 b3).1.isPrefixRow = false := by
  unfold decode4
  split
  · exact Instr.decoded_of_isTableEntry (decodeCb_isTableEntry b1)
  split
  · exact Instr.decoded_of_isTableEntry (decodeEd_isTableEntry b1 b2 b3)
  split
  · exact decodeIndexed_decoded .ix b1 b2 b3
  split
  · exact decodeIndexed_decoded .iy b1 b2 b3
  · next hcb hed hdd hfd => exact Instr.decoded_of_isTableEntry (decodeBase_isTableEntry hcb hdd hed hfd b1 b2)

end Sys2Proof
end

section
/-! SUPPORT. Which meanings answer a next state: the tables, an instruction, the engine step, the machine step. -/

namespace Sys2Proof.Machine

theorem runTable_next {j : Instr} (h : j.inTables = true) (s : State) : ∃ t, runTable j s = .next t := by
  cases j
  case cbPrefix | ddPrefix | edPrefix | fdPrefix | ixCbPrefix | iyCbPrefix | ixIgnored | iyIgnored => cases h
  all_goals exact ⟨_, rfl⟩

/-- An ignored prefix runs its base instruction, which stands in the tables (R389). -/
theorem exec_next {j : Instr} (hwf : j.wf = true) (hrow : j.isPrefixRow = false) (s : State) :
    ∃ t, exec j s = .next t := by
  cases j
  case cbPrefix | ddPrefix | edPrefix | fdPrefix | ixCbPrefix | iyCbPrefix => cases hrow
  case ixIgnored base | iyIgnored base =>
    have hfree : base.prefixFree = true := (Bool.and_eq_true_iff.mp hwf).1
    exact runTable_next (Instr.inTables_of_prefixFree hfree) s.fetchOpcode
  all_goals exact ⟨_, rfl⟩

theorem State.decodeAndExecute_next (s : State) : ∃ t, s.decodeAndExecute = .next t := by
  have ⟨hwf, hrow⟩ := decode4_decoded (s.peek s.pc) (s.peek (s.pc + 1)) (s.peek (s.pc + 2)) (s.peek (s.pc + 3))
  obtain ⟨t, ht⟩ : ∃ t, exec s.instrAt s.beginInstr = .next t := exec_next hwf hrow s.beginInstr
  exact ⟨t.endInstr, by rw [decodeAndExecute, ht]⟩

/-- Mode 0 needs an RST opcode on the bus (R413). -/
theorem State.serviceInt_next {s : State} (h : s.im = .im0 → s.cfg.intBusByte &&& 0xC7 = 0xC7) :
    ∃ t, s.serviceInt = .next t := by
  unfold serviceInt
  split
  · exact ⟨_, rfl⟩
  · exact ⟨_, rfl⟩
  · next him => exact ⟨_, if_pos (h him)⟩

theorem State.engineStep_next {s : State} (h : s.im = .im0 → s.cfg.intBusByte &&& 0xC7 = 0xC7) :
    ∃ t, s.engineStep = .next t := by
  unfold engineStep
  split
  · exact ⟨_, rfl⟩
  split
  · exact ⟨_, rfl⟩
  split
  · exact ⟨_, rfl⟩
  split
  · exact serviceInt_next h
  · exact decodeAndExecute_next s

/-- The device moves its own three fields and the request bit (R421 to R423). -/
theorem State.deviceStep_does (s : State) :
    let t := s.deviceStep
    t = { s with devRaised := t.devRaised, devRevoked := t.devRevoked, devFrame := t.devFrame, reqInt := t.reqInt } := by
  unfold deviceStep checkForInterrupt startFrame
  repeat' split
  all_goals rfl

@[simp] theorem State.deviceStep_im (s : State) : s.deviceStep.im = s.im := (congrArg im s.deviceStep_does :)

@[simp] theorem State.deviceStep_cfg (s : State) : s.deviceStep.cfg = s.cfg := (congrArg cfg s.deviceStep_does :)

theorem usable_iff (k : Config) : usable k = true ↔ k.interruptTact + k.longestOpTacts < k.frameTacts :=
  decide_eq_true_iff

theorem step_of_usable {s : State} (h : s.cfg.interruptTact + s.cfg.longestOpTacts < s.cfg.frameTacts) :
    step s = s.deviceStep.engineStep := if_pos ((usable_iff s.cfg).mpr h)

theorem step_of_not_usable {s : State} (h : ¬ s.cfg.interruptTact + s.cfg.longestOpTacts < s.cfg.frameTacts) :
    step s = .refused .badConfiguration := if_neg (h ∘ (usable_iff s.cfg).mp)

/-- Settles O29: the decoder gives only terms `exec` completes, the device keeps the mode and the bus byte, and the type
of faults is empty. -/
theorem stepTotal : Obligations.StepTotal := by
  unfold Obligations.StepTotal
  intro s
  refine ⟨fun hcfg hbus => ?_, nofun, step_of_not_usable⟩
  rw [step_of_usable hcfg]
  exact State.engineStep_next (by simpa using hbus)

end Sys2Proof.Machine
end

section
/-! SUPPORT. What `exec` runs: an entry of the tables, from the state itself or after the one more opcode fetch of an
ignored prefix (49_cpu_control.md R389). -/

namespace Sys2Proof.Machine

/-- Where the instruction a term runs (`coreOf`) begins: an ignored prefix costs one opcode fetch before it. -/
def coreStart (j : Instr) (s : State) : State :=
  match j with
  | .ixIgnored _ | .iyIgnored _ => s.fetchOpcode
  | _ => s

theorem coreStart_cases (j : Instr) (s : State) : coreStart j s = s ∨ coreStart j s = s.fetchOpcode := by
  unfold coreStart
  split
  · exact .inr rfl
  · exact .inr rfl
  · exact .inl rfl

theorem exec_eq_runTable {j : Instr} (hrow : j.isPrefixRow = false) (s : State) :
    exec j s = runTable (coreOf j) (coreStart j s) := by
  cases j
  case cbPrefix | ddPrefix | edPrefix | fdPrefix | ixCbPrefix | iyCbPrefix => cases hrow
  all_goals rfl

theorem inTables_of_runTable {j : Instr} {s t : State} (h : runTable j s = .next t) : j.inTables = true := by
  cases j
  case cbPrefix | ddPrefix | edPrefix | fdPrefix | ixCbPrefix | iyCbPrefix | ixIgnored | iyIgnored => cases h
  all_goals rfl

/-- What holds of some next state holds of the one answered. -/
theorem next_of_exists {r : Result} {t : State} {P : State → Prop} (h : r = .next t) (hP : ∃ u, r = .next u ∧ P u) :
    P t := by
  obtain ⟨u, hu, hPu⟩ := hP
  cases hu.symm.trans h
  exact hPu

theorem coreOf_of_inTables {j : Instr} (h : j.inTables = true) : coreOf j = j := by
  cases j
  case ixIgnored | iyIgnored => cases h
  all_goals rfl

/-- A well-formed term is its own core, or its core is an opcode the prefix leaves as it is (R389). -/
theorem coreOf_eq_or_prefixFree {j : Instr} (hwf : j.wf = true) : coreOf j = j ∨ (coreOf j).prefixFree = true := by
  cases j
  case ixIgnored base | iyIgnored base => exact .inr (Bool.and_eq_true_iff.mp hwf).1
  all_goals exact .inl rfl

theorem inTables_coreOf {j : Instr} (hwf : j.wf = true) (hrow : j.isPrefixRow = false) : (coreOf j).inTables = true := by
  cases j
  case cbPrefix | ddPrefix | edPrefix | fdPrefix | ixCbPrefix | iyCbPrefix => cases hrow
  case ixIgnored base | iyIgnored base => exact Instr.inTables_of_prefixFree (Bool.and_eq_true_iff.mp hwf).1
  all_goals rfl

end Sys2Proof.Machine
end

section
/-! SUPPORT. The state only its own instructions change: the shadow registers, `I`, the interrupt flip-flops and mode, the
request bits, the prefix modes, the Interrupt Device, the configuration. One rule per operation, then every
instruction of the tables at once. -/

namespace Sys2Proof.Machine

/-- The state most instructions leave alone (10_state.md R22, R26, R38 to R42, R44; log 1). -/
structure Reserved where
  afAlt : Word
  bcAlt : Word
  deAlt : Word
  hlAlt : Word
  i : Byte
  iff1 : Bool
  iff2 : Bool
  im : IntMode
  intBlocked : Bool
  reqReset : Bool
  reqInt : Bool
  reqNmi : Bool
  halted : Bool
  prefixMode : PrefixMode
  indexMode : IndexMode
  heldDisp : Option Byte
  devRaised : Bool
  devRevoked : Bool
  devFrame : Tact
  cfg : Config

/-- What `s` holds of it. -/
def State.reserved (s : State) : Reserved :=
  { afAlt := s.afAlt, bcAlt := s.bcAlt, deAlt := s.deAlt, hlAlt := s.hlAlt, i := s.i, iff1 := s.iff1, iff2 := s.iff2
    im := s.im, intBlocked := s.intBlocked, reqReset := s.reqReset, reqInt := s.reqInt, reqNmi := s.reqNmi
    halted := s.halted, prefixMode := s.prefixMode, indexMode := s.indexMode, heldDisp := s.heldDisp
    devRaised := s.devRaised, devRevoked := s.devRevoked, devFrame := s.devFrame, cfg := s.cfg }

/-- What an instruction leaves of it (R191, R192, R146, R382 to R387, R341, R342, R381): most change nothing. -/
def reservedAfter (j : Instr) (s : State) : Reserved :=
  match j with
  | .exAfAf => { s.reserved with afAlt := s.af }
  | .exx => { s.reserved with bcAlt := s.bc, deAlt := s.de, hlAlt := s.hl }
  | .ldIA => { s.reserved with i := s.a }
  | .im0 _ _ => { s.reserved with im := .im0 }
  | .im1 _ => { s.reserved with im := .im1 }
  | .im2 _ => { s.reserved with im := .im2 }
  | .di => { s.reserved with iff1 := false, iff2 := false }
  | .ei => { s.reserved with iff1 := true, iff2 := true, intBlocked := true }
  | .reti | .retn _ => { s.reserved with iff1 := s.iff2 }
  | .halt | .haltIx | .haltIy => { s.reserved with halted := true }
  | .redundantIxDd | .redundantIxFd | .redundantIxEd | .redundantIyDd | .redundantIyFd | .redundantIyEd =>
    { s.reserved with intBlocked := true }
  | _ => s.reserved

/-! ### No operation on the bus, the stack or the plain registers touches it -/

@[simp] theorem reserved_fetchOpcode (s : State) : s.fetchOpcode.reserved = s.reserved := rfl
@[simp] theorem reserved_fetchByte (s : State) : s.fetchByte.reserved = s.reserved := rfl
@[simp] theorem reserved_tick (s : State) (n : Nat) : (s.tick n).reserved = s.reserved := rfl
@[simp] theorem reserved_readCycle (s : State) (x : Word) : (s.readCycle x).reserved = s.reserved := rfl
@[simp] theorem reserved_writeByte (s : State) (x : Word) (v : Byte) : (s.writeByte x v).reserved = s.reserved := rfl
@[simp] theorem reserved_portInCycle (s : State) (p : Word) : (s.portInCycle p).reserved = s.reserved := rfl
@[simp] theorem reserved_portOut (s : State) (p : Word) (v : Byte) : (s.portOut p v).reserved = s.reserved := rfl
@[simp] theorem reserved_enterAt (s : State) (w : Word) : (s.enterAt w).reserved = s.reserved := rfl
@[simp] theorem reserved_setA (s : State) (v : Byte) : (s.setA v).reserved = s.reserved := rfl
@[simp] theorem reserved_setF (s : State) (v : Byte) : (s.setF v).reserved = s.reserved := rfl
@[simp] theorem reserved_setB (s : State) (v : Byte) : (s.setB v).reserved = s.reserved := rfl
@[simp] theorem reserved_setR (s : State) (v : Byte) : (s.setR v).reserved = s.reserved := rfl
@[simp] theorem reserved_setSp (s : State) (w : Word) : (s.setSp w).reserved = s.reserved := rfl
@[simp] theorem reserved_setPc (s : State) (w : Word) : (s.setPc w).reserved = s.reserved := rfl
@[simp] theorem reserved_setMw (s : State) (w : Word) : (s.setMw w).reserved = s.reserved := rfl
@[simp] theorem reserved_setBc (s : State) (w : Word) : (s.setBc w).reserved = s.reserved := rfl
@[simp] theorem reserved_setDe (s : State) (w : Word) : (s.setDe w).reserved = s.reserved := rfl
@[simp] theorem reserved_setHl (s : State) (w : Word) : (s.setHl w).reserved = s.reserved := rfl
@[simp] theorem reserved_setR8 (s : State) (rr : Reg8) (v : Byte) : (s.setR8 rr v).reserved = s.reserved := by
  cases rr <;> rfl
@[simp] theorem reserved_setPair (s : State) (dd : Pair) (w : Word) : (s.setPair dd w).reserved = s.reserved := by
  cases dd <;> rfl
@[simp] theorem reserved_setPairQ (s : State) (qq : PairQ) (w : Word) : (s.setPairQ qq w).reserved = s.reserved := by
  cases qq <;> rfl
@[simp] theorem reserved_setXy (s : State) (k : Idx) (w : Word) : (s.setXy k w).reserved = s.reserved := by
  cases k <;> rfl
@[simp] theorem reserved_setRx (s : State) (k : Idx) (rx : RegX) (v : Byte) :
    (s.setRx k rx v).reserved = s.reserved := by
  cases rx <;> cases k <;> rfl
@[simp] theorem reserved_push (s : State) (w : Word) : (s.push w).reserved = s.reserved := by simp [State.push]
@[simp] theorem reserved_popCycles (s : State) : s.popCycles.reserved = s.reserved := by simp [State.popCycles]

/-! ### Nor do the block operations, whatever their step -/

@[simp] theorem reserved_blockLoad (step : Word) (s : State) : (blockLoad step s).reserved = s.reserved := by
  simp [blockLoad]

@[simp] theorem reserved_blockCompare (step : Word) (s : State) : (blockCompare step s).reserved = s.reserved := by
  simp [blockCompare]

@[simp] theorem reserved_blockLoadRepeat (step : Word) (s : State) : (blockLoadRepeat step s).reserved = s.reserved := by
  unfold blockLoadRepeat
  dsimp only
  split <;> simp

@[simp] theorem reserved_blockCompareRepeat (step : Word) (s : State) :
    (blockCompareRepeat step s).reserved = s.reserved := by
  unfold blockCompareRepeat
  dsimp only
  split <;> simp

@[simp] theorem reserved_blockIoRepeat (pc0 : Word) (t : State) : (blockIoRepeat pc0 t).reserved = t.reserved := by
  unfold blockIoRepeat
  split <;> simp

/-! ### Every instruction -/

/-- Every instruction of the tables answers a next state, with the reserved state its own rule gives: all but nineteen are
chains of the operations above. -/
theorem runTable_reserved {j : Instr} (h : j.inTables = true) (s : State) :
    ∃ t, runTable j s = .next t ∧ t.reserved = reservedAfter j s := by
  cases j
  case cbPrefix | ddPrefix | edPrefix | fdPrefix | ixCbPrefix | iyCbPrefix | ixIgnored | iyIgnored => cases h
  all_goals refine ⟨_, rfl, ?_⟩
  case exAfAf | exx | ldIA | im0 | im1 | im2 | di | ei | reti | retn | halt | haltIx | haltIy | redundantIxDd
    | redundantIxFd | redundantIxEd | redundantIyDd | redundantIyFd | redundantIyEd =>
    simp [reservedAfter, State.reserved, exchangeAf, exchangeSets, enterHalt, returnFromInterrupt, State.returnFromStack,
      State.popCycles]
  all_goals simp [reservedAfter, apply_ite State.reserved, aluReg, aluImm, aluMemHl, aluMemIdx, aluHalf, aluWith,
    incReg, decReg, incHalf, decHalf, accFlags, negate, modifyIdxCbCopy, modifyIdxCb, modifyMem, rotateAcc, rotateReg,
    rotateDigit, bitReg, bitMemHl, bitMemIdx, addHl, adcHl, sbcHl, addXy, exchangeTop, portOutImm, portInImm,
    portInFlags, portInReg, portOutBc, blockIn, blockOut, loadWordCycles, storeWord, storeA, loadA, loadSpecial,
    loadIdxReg, storeIdxReg, storeIdxImm, State.jumpRelative, State.returnFromStack, callTo, countAndJump,
    jumpRelativeIf, jumpIf, callIf, returnIf]

@[simp] theorem reserved_coreStart (j : Instr) (s : State) : (coreStart j s).reserved = s.reserved := by
  obtain e | e := coreStart_cases j s <;> rw [e]
  exact reserved_fetchOpcode s

theorem reservedAfter_coreStart (i j : Instr) (s : State) : reservedAfter i (coreStart j s) = reservedAfter i s := by
  obtain e | e := coreStart_cases j s <;> rw [e]
  unfold reservedAfter
  split <;> simp

theorem exec_reserved {j : Instr} {s t : State} (hrow : j.isPrefixRow = false) (h : exec j s = .next t) :
    t.reserved = reservedAfter (coreOf j) s := by
  rw [exec_eq_runTable hrow] at h
  rw [next_of_exists h (runTable_reserved (inTables_of_runTable h) _), reservedAfter_coreStart]

/-! ### What changes each part of it -/

theorem reservedAfter_intBlocked (j : Instr) (s : State) :
    (reservedAfter j s).intBlocked = true ↔ s.intBlocked = true ∨ j = .ei ∨ isRedundant j = true := by
  unfold reservedAfter isRedundant
  split <;> simp_all [State.reserved]

theorem reservedAfter_halted {j : Instr} {s : State} (h : (reservedAfter j s).halted = true) :
    s.halted = true ∨ j = .halt ∨ j = .haltIx ∨ j = .haltIy := by
  unfold reservedAfter at h
  split at h <;> simp_all [State.reserved]

/-- No instruction touches a request bit (R41). -/
theorem reservedAfter_requests (j : Instr) (s : State) :
    (reservedAfter j s).reqReset = s.reqReset ∧ (reservedAfter j s).reqInt = s.reqInt ∧
    (reservedAfter j s).reqNmi = s.reqNmi := by
  unfold reservedAfter
  split <;> simp [State.reserved]

/-- The shadow registers, `I`, `IM` and the flip-flops, each by its own instructions (R22, R26, R38, R39). -/
theorem reservedAfter_owners (j : Instr) (s : State) :
    ((reservedAfter j s).afAlt ≠ s.afAlt → j = .exAfAf) ∧
    ((reservedAfter j s).bcAlt ≠ s.bcAlt ∨ (reservedAfter j s).deAlt ≠ s.deAlt ∨
      (reservedAfter j s).hlAlt ≠ s.hlAlt → j = .exx) ∧
    ((reservedAfter j s).i ≠ s.i → j = .ldIA) ∧
    ((reservedAfter j s).im ≠ s.im → (∃ b5 b3, j = .im0 b5 b3) ∨ (∃ b5, j = .im1 b5) ∨ ∃ b5, j = .im2 b5) ∧
    ((reservedAfter j s).iff1 ≠ s.iff1 ∨ (reservedAfter j s).iff2 ≠ s.iff2 →
      j = .di ∨ j = .ei ∨ j = .reti ∨ ∃ copy, j = .retn copy) := by
  unfold reservedAfter
  split <;> simp [State.reserved]

end Sys2Proof.Machine
end

section
/-! SUPPORT. Memory, `PC` and the index registers after every instruction of the tables. -/

namespace Sys2Proof.Machine

/-! ### The block operations and DJNZ, for any step and on either branch -/

@[simp] theorem pc_blockLoad (step : Word) (s : State) : (blockLoad step s).pc = s.pc + 2 := by simp [blockLoad]

@[simp] theorem ix_blockLoad (step : Word) (s : State) : (blockLoad step s).ix = s.ix := by simp [blockLoad]

@[simp] theorem iy_blockLoad (step : Word) (s : State) : (blockLoad step s).iy = s.iy := by simp [blockLoad]

theorem wf_blockLoad {s : State} (h : s.mem.wf = true) (step : Word) : (blockLoad step s).mem.wf = true := by
  simp [blockLoad, -State.writeByte_mem, wf_writeByte, h]

@[simp] theorem pc_blockCompare (step : Word) (s : State) : (blockCompare step s).pc = s.pc + 2 := by simp [blockCompare]

@[simp] theorem ix_blockCompare (step : Word) (s : State) : (blockCompare step s).ix = s.ix := by simp [blockCompare]

@[simp] theorem iy_blockCompare (step : Word) (s : State) : (blockCompare step s).iy = s.iy := by simp [blockCompare]

@[simp] theorem mem_blockCompare (step : Word) (s : State) : (blockCompare step s).mem = s.mem := by simp [blockCompare]

@[simp] theorem mem_blockIoRepeat (pc0 : Word) (t : State) : (blockIoRepeat pc0 t).mem = t.mem := by
  unfold blockIoRepeat
  split <;> simp

@[simp] theorem ix_blockIoRepeat (pc0 : Word) (t : State) : (blockIoRepeat pc0 t).ix = t.ix := by
  unfold blockIoRepeat
  split <;> simp

@[simp] theorem iy_blockIoRepeat (pc0 : Word) (t : State) : (blockIoRepeat pc0 t).iy = t.iy := by
  unfold blockIoRepeat
  split <;> simp

@[simp] theorem ix_countAndJump (e : Byte) (s : State) : (countAndJump e s).ix = s.ix := by
  unfold countAndJump
  split <;> simp [State.jumpRelative]

@[simp] theorem iy_countAndJump (e : Byte) (s : State) : (countAndJump e s).iy = s.iy := by
  unfold countAndJump
  split <;> simp [State.jumpRelative]

/-! ### Memory keeps its canonical form (log 6) -/

/-- Every write of an instruction goes through `writeByte`, which keeps the form. -/
theorem runTable_wf {j : Instr} (h : j.inTables = true) {s : State} (hs : s.mem.wf = true) :
    ∃ t, runTable j s = .next t ∧ t.mem.wf = true := by
  cases j
  case cbPrefix | ddPrefix | edPrefix | fdPrefix | ixCbPrefix | iyCbPrefix | ixIgnored | iyIgnored => cases h
  all_goals refine ⟨_, rfl, ?_⟩
  all_goals simp [wf_writeByte, hs, -State.writeByte_mem, apply_ite State.mem, apply_ite Memory.wf, wf_blockLoad,
    aluReg, aluImm, aluMemHl, aluMemIdx, aluHalf, aluWith, incReg, decReg, incHalf, decHalf, accFlags, negate,
    modifyIdxCbCopy, modifyIdxCb, modifyMem, rotateAcc, rotateReg, rotateDigit, bitReg, bitMemHl, bitMemIdx, addHl,
    adcHl, sbcHl, addXy, exchangeTop, portOutImm, portInImm, portInFlags, portInReg, portOutBc, blockIn, blockOut,
    loadWordCycles, storeWord, storeA, loadA, loadSpecial, loadIdxReg, storeIdxReg, storeIdxImm, State.jumpRelative,
    State.returnFromStack, callTo, countAndJump, jumpRelativeIf, jumpIf, callIf, returnIf, blockLoadRepeat,
    blockCompareRepeat, State.push, State.popCycles, exchangeAf, exchangeSets, returnFromInterrupt, enterHalt]

theorem exec_wf {j : Instr} {s t : State} (hrow : j.isPrefixRow = false) (hs : s.mem.wf = true)
    (h : exec j s = .next t) : t.mem.wf = true := by
  rw [exec_eq_runTable hrow] at h
  have hstart : (coreStart j s).mem.wf = true := by
    obtain e | e := coreStart_cases j s <;> rw [e]
    · exact hs
    · exact hs
  exact next_of_exists h (runTable_wf (inTables_of_runTable h) hstart)

/-! ### `PC` after the last byte (R25, R110) -/

theorem runTable_pc {j : Instr} (h : j.inTables = true) (hseq : mayTransfer j = false) (s : State) :
    ∃ t, runTable j s = .next t ∧ t.pc = s.pc + BitVec.ofNat 16 j.size := by
  cases j
  case cbPrefix | ddPrefix | edPrefix | fdPrefix | ixCbPrefix | iyCbPrefix | ixIgnored | iyIgnored => cases h
  case djnz | jr | jrCc | retCc | ret | jpHl | jpCcNn | jpNn | callCcNn | callNn | rstP | reti | retn | jpIx | jpIy | ldir
    | lddr | cpir | cpdr | inir | indr | otir | otdr | halt | haltIx | haltIy => cases hseq
  all_goals refine ⟨_, rfl, ?_⟩
  all_goals simp [Instr.size, Instr.encode, aluReg, aluImm, aluMemHl, aluMemIdx, aluHalf, aluWith, incReg, decReg,
    incHalf, decHalf, accFlags, negate, modifyIdxCbCopy, modifyIdxCb, modifyMem, rotateAcc, rotateReg, rotateDigit,
    bitReg, bitMemHl, bitMemIdx, addHl, adcHl, sbcHl, addXy, exchangeTop, portOutImm, portInImm, portInFlags, portInReg,
    portOutBc, blockIn, blockOut, loadWordCycles, storeWord, storeA, loadA, loadSpecial, loadIdxReg, storeIdxReg,
    storeIdxImm, State.push, State.popCycles, exchangeAf, exchangeSets]

theorem mayTransfer_coreOf {j : Instr} (hwf : j.wf = true) (hrow : j.isPrefixRow = false) :
    mayTransfer (coreOf j) = mayTransfer j := by
  unfold mayTransfer
  rw [coreOf_of_inTables (inTables_coreOf hwf hrow)]

theorem size_of_prefixFree {j : Instr} (h : j.prefixFree = true) : j.size = j.encode.length := by
  cases j
  case redundantIxDd | redundantIxFd | redundantIxEd | redundantIyDd | redundantIyFd | redundantIyEd => cases h
  all_goals rfl

/-- The byte of an ignored prefix is one of the bytes of the term (R389). -/
theorem coreStart_pc_add_size {j : Instr} (hwf : j.wf = true) (s : State) :
    (coreStart j s).pc + BitVec.ofNat 16 (coreOf j).size = s.pc + BitVec.ofNat 16 j.size := by
  cases j
  case ixIgnored base | iyIgnored base =>
    have hbase : base.size = base.encode.length := size_of_prefixFree (Bool.and_eq_true_iff.mp hwf).1
    show s.pc + 1#16 + BitVec.ofNat 16 base.size = s.pc + BitVec.ofNat 16 (base.encode.length + 1)
    rw [hbase, BitVec.ofNat_add, BitVec.add_assoc, BitVec.add_comm 1#16]
  all_goals rfl

/-! ### The index registers (R23, R101) -/

theorem runTable_index {j : Instr} (h : j.inTables = true) (s : State) :
    ∃ t, runTable j s = .next t ∧
      (t.ix = s.ix ∧ t.iy = s.iy ∨ j.encode.head? = some 0xDD ∨ j.encode.head? = some 0xFD) := by
  cases j
  case cbPrefix | ddPrefix | edPrefix | fdPrefix | ixCbPrefix | iyCbPrefix | ixIgnored | iyIgnored => cases h
  all_goals refine ⟨_, rfl, ?_⟩
  all_goals simp [Instr.encode, apply_ite State.ix, apply_ite State.iy, aluReg, aluImm, aluMemHl, aluMemIdx, aluHalf,
    aluWith, incReg, decReg, incHalf, decHalf, accFlags, negate, modifyIdxCbCopy, modifyIdxCb, modifyMem, rotateAcc,
    rotateReg, rotateDigit, bitReg, bitMemHl, bitMemIdx, addHl, adcHl, sbcHl, addXy, exchangeTop, portOutImm, portInImm,
    portInFlags, portInReg, portOutBc, blockIn, blockOut, loadWordCycles, storeWord, storeA, loadA, loadSpecial,
    loadIdxReg, storeIdxReg, storeIdxImm, State.jumpRelative, State.returnFromStack, callTo, jumpRelativeIf, jumpIf,
    callIf, returnIf, blockLoadRepeat, blockCompareRepeat, State.push, State.popCycles, exchangeAf, exchangeSets,
    returnFromInterrupt, enterHalt]

theorem exec_index {j : Instr} {s t : State} (hrow : j.isPrefixRow = false) (h : exec j s = .next t) :
    t.ix = s.ix ∧ t.iy = s.iy ∨ j.encode.head? = some 0xDD ∨ j.encode.head? = some 0xFD := by
  rw [exec_eq_runTable hrow] at h
  have hcore := next_of_exists h (runTable_index (inTables_of_runTable h) _)
  cases j
  case ixIgnored => exact .inr (.inl rfl)
  case iyIgnored => exact .inr (.inr rfl)
  all_goals exact hcore

end Sys2Proof.Machine
end

section
/-! SUPPORT. `MW` is written and not read (10_state.md R28, R29): every operation commutes with a write of `MW`, and every
instruction but BIT b,(HL) gives states that agree when `MW` is forgotten. -/

namespace Sys2Proof.Machine

/-! ### What does not see `MW` -/

@[simp] theorem af_setMw (s : State) (w : Word) : (s.setMw w).af = s.af := rfl
@[simp] theorem bc_setMw (s : State) (w : Word) : (s.setMw w).bc = s.bc := rfl
@[simp] theorem de_setMw (s : State) (w : Word) : (s.setMw w).de = s.de := rfl
@[simp] theorem hl_setMw (s : State) (w : Word) : (s.setMw w).hl = s.hl := rfl
@[simp] theorem topWord_setMw (s : State) (w : Word) : (s.setMw w).topWord = s.topWord := rfl
@[simp] theorem r8_setMw (s : State) (w : Word) (rr : Reg8) : (s.setMw w).r8 rr = s.r8 rr := rfl
@[simp] theorem pair_setMw (s : State) (w : Word) (dd : Pair) : (s.setMw w).pair dd = s.pair dd := rfl
@[simp] theorem pairQ_setMw (s : State) (w : Word) (qq : PairQ) : (s.setMw w).pairQ qq = s.pairQ qq := rfl
@[simp] theorem xy_setMw (s : State) (w : Word) (k : Idx) : (s.setMw w).xy k = s.xy k := rfl
@[simp] theorem rx_setMw (s : State) (w : Word) (k : Idx) (rx : RegX) : (s.setMw w).rx k rx = s.rx k rx := rfl
@[simp] theorem pairX_setMw (s : State) (w : Word) (k : Idx) (pp : PairX) : (s.setMw w).pairX k pp = s.pairX k pp := rfl
@[simp] theorem cond_setMw (s : State) (w : Word) (cc : Cond) : (s.setMw w).cond cc = s.cond cc := rfl
@[simp] theorem idxAddr_setMw (s : State) (w : Word) (k : Idx) (d : Byte) : (s.setMw w).idxAddr k d = s.idxAddr k d := rfl
@[simp] theorem peekWord_setMw (s : State) (w : Word) (x : Word) : (s.setMw w).peekWord x = s.peekWord x := rfl
@[simp] theorem portIn_setMw (s : State) (w : Word) (p : Word) : (s.setMw w).portIn p = s.portIn p := rfl

/-! ### Operations commute with a write of `MW` -/

theorem fetchOpcode_setMw (s : State) (w : Word) : (s.setMw w).fetchOpcode = s.fetchOpcode.setMw w := rfl
theorem fetchByte_setMw (s : State) (w : Word) : (s.setMw w).fetchByte = s.fetchByte.setMw w := rfl
theorem tick_setMw (s : State) (w : Word) (n : Nat) : (s.setMw w).tick n = (s.tick n).setMw w := rfl
theorem readCycle_setMw (s : State) (w : Word) (x : Word) : (s.setMw w).readCycle x = (s.readCycle x).setMw w := rfl
theorem writeByte_setMw (s : State) (w : Word) (x : Word) (v : Byte) :
    (s.setMw w).writeByte x v = (s.writeByte x v).setMw w := rfl
theorem portInCycle_setMw (s : State) (w : Word) (p : Word) :
    (s.setMw w).portInCycle p = (s.portInCycle p).setMw w := rfl
theorem portOut_setMw (s : State) (w : Word) (p : Word) (v : Byte) :
    (s.setMw w).portOut p v = (s.portOut p v).setMw w := rfl
theorem setA_setMw (s : State) (w : Word) (v : Byte) : (s.setMw w).setA v = (s.setA v).setMw w := rfl
theorem setF_setMw (s : State) (w : Word) (v : Byte) : (s.setMw w).setF v = (s.setF v).setMw w := rfl
theorem setB_setMw (s : State) (w : Word) (v : Byte) : (s.setMw w).setB v = (s.setB v).setMw w := rfl
theorem setI_setMw (s : State) (w : Word) (v : Byte) : (s.setMw w).setI v = (s.setI v).setMw w := rfl
theorem setR_setMw (s : State) (w : Word) (v : Byte) : (s.setMw w).setR v = (s.setR v).setMw w := rfl
theorem setSp_setMw (s : State) (w : Word) (u : Word) : (s.setMw w).setSp u = (s.setSp u).setMw w := rfl
theorem setPc_setMw (s : State) (w : Word) (u : Word) : (s.setMw w).setPc u = (s.setPc u).setMw w := rfl
theorem setIm_setMw (s : State) (w : Word) (m : IntMode) : (s.setMw w).setIm m = (s.setIm m).setMw w := rfl
theorem setBc_setMw (s : State) (w : Word) (u : Word) : (s.setMw w).setBc u = (s.setBc u).setMw w := rfl
theorem setDe_setMw (s : State) (w : Word) (u : Word) : (s.setMw w).setDe u = (s.setDe u).setMw w := rfl
theorem setHl_setMw (s : State) (w : Word) (u : Word) : (s.setMw w).setHl u = (s.setHl u).setMw w := rfl
theorem setIff_setMw (s : State) (w : Word) (v1 : Bool) (v2 : Bool) :
    (s.setMw w).setIff v1 v2 = (s.setIff v1 v2).setMw w := rfl
theorem blockInt_setMw (s : State) (w : Word) : (s.setMw w).blockInt = s.blockInt.setMw w := rfl
theorem setR8_setMw (s : State) (w : Word) (rr : Reg8) (v : Byte) :
    (s.setMw w).setR8 rr v = (s.setR8 rr v).setMw w := by cases rr <;> rfl
theorem setPair_setMw (s : State) (w : Word) (dd : Pair) (u : Word) :
    (s.setMw w).setPair dd u = (s.setPair dd u).setMw w := by cases dd <;> rfl
theorem setPairQ_setMw (s : State) (w : Word) (qq : PairQ) (u : Word) :
    (s.setMw w).setPairQ qq u = (s.setPairQ qq u).setMw w := by cases qq <;> rfl
theorem setXy_setMw (s : State) (w : Word) (k : Idx) (u : Word) :
    (s.setMw w).setXy k u = (s.setXy k u).setMw w := by cases k <;> rfl
theorem setRx_setMw (s : State) (w : Word) (k : Idx) (rx : RegX) (v : Byte) :
    (s.setMw w).setRx k rx v = (s.setRx k rx v).setMw w := by cases rx <;> cases k <;> rfl
theorem setMw_setMw (s : State) (w x : Word) : (s.setMw w).setMw x = s.setMw x := rfl
theorem setMw_enterAt (s : State) (w x : Word) : (s.setMw w).enterAt x = s.enterAt x := rfl
theorem enterHalt_setMw (s : State) (w : Word) : enterHalt (s.setMw w) = (enterHalt s).setMw w := rfl
theorem exchangeAf_setMw (s : State) (w : Word) : exchangeAf (s.setMw w) = (exchangeAf s).setMw w := rfl
theorem exchangeSets_setMw (s : State) (w : Word) : exchangeSets (s.setMw w) = (exchangeSets s).setMw w := rfl

theorem push_setMw (s : State) (w x : Word) : (s.setMw w).push x = (s.push x).setMw w := by
  simp [State.push, setSp_setMw, writeByte_setMw]

theorem popCycles_setMw (s : State) (w : Word) : (s.setMw w).popCycles = s.popCycles.setMw w := by
  simp [State.popCycles, setSp_setMw, readCycle_setMw]

theorem returnFromInterrupt_setMw (s : State) (w : Word) : returnFromInterrupt (s.setMw w) = returnFromInterrupt s := by
  simp [returnFromInterrupt, State.returnFromStack, fetchOpcode_setMw, popCycles_setMw, setMw_enterAt]

/-! ### States that differ in `MW` alone -/

/-- `s` with `MW` forgotten. -/
def State.withoutMw (s : State) : State := s.setMw 0

theorem withoutMw_setMw (s : State) (w : Word) : (s.setMw w).withoutMw = s.withoutMw := rfl

theorem withoutMw_enterAt (s : State) (x : Word) : (s.enterAt x).withoutMw = (s.setPc x).withoutMw := rfl

theorem eq_setMw_of_withoutMw {s t : State} (h : t.withoutMw = s.withoutMw) : t = s.setMw t.mw :=
  (congrArg (State.setMw · t.mw) h :)

/-! ### The conditional operations: the condition does not see `MW` either -/

theorem withoutMw_countAndJump (e : Byte) (s : State) (w : Word) :
    (countAndJump e (s.setMw w)).withoutMw = (countAndJump e s).withoutMw := by
  by_cases h : s.b - 1#8 = 0#8 <;>
    simp [countAndJump, h, State.jumpRelative, fetchOpcode_setMw, fetchByte_setMw, tick_setMw, setB_setMw, setMw_enterAt,
      withoutMw_setMw]

theorem withoutMw_jumpRelativeIf (cc : Cond) (e : Byte) (s : State) (w : Word) :
    (jumpRelativeIf cc e (s.setMw w)).withoutMw = (jumpRelativeIf cc e s).withoutMw := by
  by_cases h : s.cond cc = true <;>
    simp [jumpRelativeIf, h, State.jumpRelative, fetchOpcode_setMw, fetchByte_setMw, tick_setMw, setMw_enterAt,
      withoutMw_setMw]

theorem jumpIf_setMw (cc : Cond) (nn : Word) (s : State) (w : Word) : jumpIf cc nn (s.setMw w) = jumpIf cc nn s := by
  by_cases h : s.cond cc = true <;> simp [jumpIf, h, fetchOpcode_setMw, fetchByte_setMw, setMw_setMw]

theorem callIf_setMw (cc : Cond) (nn : Word) (s : State) (w : Word) : callIf cc nn (s.setMw w) = callIf cc nn s := by
  by_cases h : s.cond cc = true <;>
    simp [callIf, h, callTo, fetchOpcode_setMw, fetchByte_setMw, tick_setMw, push_setMw, setMw_enterAt, setMw_setMw]

theorem withoutMw_returnIf (cc : Cond) (s : State) (w : Word) :
    (returnIf cc (s.setMw w)).withoutMw = (returnIf cc s).withoutMw := by
  by_cases h : s.cond cc = true <;>
    simp [returnIf, h, State.returnFromStack, fetchOpcode_setMw, tick_setMw, popCycles_setMw, setMw_enterAt,
      withoutMw_setMw]

theorem blockLoad_setMw (step : Word) (s : State) (w : Word) :
    blockLoad step (s.setMw w) = (blockLoad step s).setMw w := by
  simp [blockLoad, fetchOpcode_setMw, readCycle_setMw, writeByte_setMw, tick_setMw, setHl_setMw, setDe_setMw, setBc_setMw,
    setF_setMw]

theorem withoutMw_blockLoad (step : Word) (s : State) (w : Word) :
    (blockLoad step (s.setMw w)).withoutMw = (blockLoad step s).withoutMw := by
  rw [blockLoad_setMw, withoutMw_setMw]

theorem withoutMw_blockLoadRepeat (step : Word) (s : State) (w : Word) :
    (blockLoadRepeat step (s.setMw w)).withoutMw = (blockLoadRepeat step s).withoutMw := by
  by_cases h : s.bc - 1#16 = 0#16 <;>
    simp [blockLoadRepeat, h, blockLoad_setMw, tick_setMw, setPc_setMw, setMw_setMw, withoutMw_setMw]

/-- A block search counts `MW` on (R200): it ends with another one. -/
theorem blockCompare_setMw (step : Word) (s : State) (w : Word) :
    blockCompare step (s.setMw w) = (blockCompare step s).setMw (w + step) := by
  simp [blockCompare, fetchOpcode_setMw, readCycle_setMw, tick_setMw, setHl_setMw, setBc_setMw, setF_setMw, setMw_setMw]

theorem withoutMw_blockCompare (step : Word) (s : State) (w : Word) :
    (blockCompare step (s.setMw w)).withoutMw = (blockCompare step s).withoutMw := by
  rw [blockCompare_setMw, withoutMw_setMw]

theorem withoutMw_blockCompareRepeat (step : Word) (s : State) (w : Word) :
    (blockCompareRepeat step (s.setMw w)).withoutMw = (blockCompareRepeat step s).withoutMw := by
  by_cases h : s.bc - 1#16 = 0#16 ∨ s.a - s.peek s.hl = 0#8 <;>
    simp [blockCompareRepeat, h, blockCompare_setMw, tick_setMw, setPc_setMw, setMw_setMw, withoutMw_setMw]

/-- Block I/O writes `MW` whatever it was (R367, R371). -/
theorem blockIn_setMw (step : Word) (s : State) (w : Word) : blockIn step (s.setMw w) = blockIn step s := by
  simp [blockIn, fetchOpcode_setMw, tick_setMw, portInCycle_setMw, writeByte_setMw, setB_setMw, setHl_setMw, setF_setMw,
    setMw_setMw]

theorem blockOut_setMw (step : Word) (s : State) (w : Word) : blockOut step (s.setMw w) = blockOut step s := by
  simp [blockOut, fetchOpcode_setMw, tick_setMw, readCycle_setMw, portOut_setMw, setB_setMw, setHl_setMw, setF_setMw,
    setMw_setMw]

/-! ### Every instruction of the tables -/

/-- Two runs that begin with different `MW` end alike. -/
theorem runTable_withoutMw {j : Instr} (h : j.inTables = true) (hbit : ∀ b, j ≠ .bitMemHl b) (s : State) (w : Word) :
    ∃ t, runTable j s = .next t ∧ ∃ u, runTable j (s.setMw w) = .next u ∧ u.withoutMw = t.withoutMw := by
  cases j
  case cbPrefix | ddPrefix | edPrefix | fdPrefix | ixCbPrefix | iyCbPrefix | ixIgnored | iyIgnored => cases h
  case bitMemHl b => exact absurd rfl (hbit b)
  all_goals refine ⟨_, rfl, _, rfl, ?_⟩
  case ldi | ldd => exact withoutMw_blockLoad _ s w
  case ldir | lddr => exact withoutMw_blockLoadRepeat _ s w
  case cpi | cpd => exact withoutMw_blockCompare _ s w
  case cpir | cpdr => exact withoutMw_blockCompareRepeat _ s w
  case ini | ind => rw [blockIn_setMw]
  case outi | outd => rw [blockOut_setMw]
  case inir | indr => rw [blockIn_setMw, State.setMw_pc]
  case otir | otdr => rw [blockOut_setMw, State.setMw_pc]
  all_goals simp [fetchOpcode_setMw, fetchByte_setMw, tick_setMw, readCycle_setMw, writeByte_setMw, portInCycle_setMw,
    portOut_setMw, setA_setMw, setF_setMw, setI_setMw, setR_setMw, setSp_setMw, setPc_setMw, setIm_setMw, setHl_setMw,
    setIff_setMw, blockInt_setMw, setR8_setMw, setPair_setMw, setPairQ_setMw, setXy_setMw, setRx_setMw, setMw_setMw,
    setMw_enterAt, enterHalt_setMw, exchangeAf_setMw, exchangeSets_setMw, push_setMw, popCycles_setMw,
    returnFromInterrupt_setMw, withoutMw_setMw, withoutMw_enterAt, withoutMw_countAndJump, withoutMw_jumpRelativeIf,
    jumpIf_setMw, callIf_setMw, withoutMw_returnIf, aluReg, aluImm, aluMemHl, aluMemIdx, aluHalf, aluWith, incReg,
    decReg, incHalf, decHalf, accFlags, negate, modifyIdxCbCopy, modifyIdxCb, modifyMem, rotateAcc, rotateReg,
    rotateDigit, bitReg, bitMemIdx, addHl, adcHl, sbcHl, addXy, exchangeTop, portOutImm, portInImm, portInFlags,
    portInReg, portOutBc, loadWordCycles, storeWord, storeA, loadA, loadSpecial, loadIdxReg, storeIdxReg, storeIdxImm,
    State.jumpRelative, State.returnFromStack, callTo]

theorem coreStart_setMw (j : Instr) (s : State) (w : Word) : coreStart j (s.setMw w) = (coreStart j s).setMw w := by
  unfold coreStart
  split
  · rfl
  · rfl
  · rfl

theorem coreOf_ne_bitMemHl {j : Instr} (hwf : j.wf = true) (hbit : ∀ b, j ≠ .bitMemHl b) (b : BitVec 3) :
    coreOf j ≠ .bitMemHl b := by
  intro e
  obtain hself | hfree := coreOf_eq_or_prefixFree hwf
  · exact hbit b (hself.symm.trans e)
  · rw [e] at hfree
    cases hfree

/-- Settles O27: the two runs agree with `MW` forgotten, so the second ends in the first one's state with its own `MW`. -/
theorem mwOnlyReadByBit : Obligations.MwOnlyReadByBit := by
  unfold Obligations.MwOnlyReadByBit
  intro j s t w hwf hrow hbit h
  rw [exec_eq_runTable hrow] at h
  obtain ⟨u, hu, hut⟩ := next_of_exists (P := fun t => ∃ u, _ ∧ State.withoutMw u = t.withoutMw) h
    (runTable_withoutMw (inTables_coreOf hwf hrow) (coreOf_ne_bitMemHl hwf hbit) _ w)
  refine ⟨u.mw, ?_⟩
  calc exec j (s.setMw w)
      _ = runTable (coreOf j) ((coreStart j s).setMw w) := by rw [exec_eq_runTable hrow, coreStart_setMw]
      _ = .next u := hu
      _ = .next (t.setMw u.mw) := by rw [← eq_setMw_of_withoutMw hut]

end Sys2Proof.Machine
end

section
/-! SUPPORT. What an instruction step, an interrupt and the engine step can do, and the invariants of 10_state.md that
follow. -/

namespace Sys2Proof.Machine

theorem State.instrAt_decoded (s : State) : s.instrAt.wf = true ∧ s.instrAt.isPrefixRow = false :=
  decode4_decoded _ _ _ _

/-- An instruction step runs the instruction at `PC` between `beginInstr` and `endInstr` (R402). -/
theorem State.decodeAndExecute_cases {s t : State} (h : s.decodeAndExecute = .next t) :
    ∃ u, exec s.instrAt s.beginInstr = .next u ∧ t = u.endInstr := by
  unfold decodeAndExecute at h
  split at h
  · next u hu => exact ⟨u, hu, (Host.Outcome.next.inj h).symm⟩
  · cases h
  · cases h

/-- Whatever the mode, the service of an interrupt accepts it and then sets `PC` and `MW` (R410 to R413). -/
theorem State.serviceInt_cases {s t : State} (h : s.serviceInt = .next t) :
    ∃ n w, t = { s.acceptInt with tacts := n, pc := w, mw := w } := by
  unfold serviceInt at h
  split at h
  · exact ⟨_, _, (Host.Outcome.next.inj h).symm⟩
  · exact ⟨_, _, (Host.Outcome.next.inj h).symm⟩
  · split at h
    · exact ⟨_, _, (Host.Outcome.next.inj h).symm⟩
    · cases h

/-- The five actions of an engine step (R401). -/
theorem State.engineStep_cases {s t : State} (h : s.engineStep = .next t) :
    t = s.haltedStep ∧ s.halted = true ∨ t = s.resetAction ∨ t = s.serviceNmi ∨ s.serviceInt = .next t ∨
      s.decodeAndExecute = .next t := by
  unfold engineStep at h
  split at h
  · next hhalt =>
    simp only [Bool.and_eq_true] at hhalt
    obtain ⟨⟨⟨hhalted, -⟩, -⟩, -⟩ := hhalt
    exact .inl ⟨(Host.Outcome.next.inj h).symm, hhalted⟩
  split at h
  · exact .inr (.inl (Host.Outcome.next.inj h).symm)
  split at h
  · exact .inr (.inr (.inl (Host.Outcome.next.inj h).symm))
  split at h
  · exact .inr (.inr (.inr (.inl h)))
  · exact .inr (.inr (.inr (.inr h)))

theorem step_cases {s t : State} (h : step s = .next t) : s.deviceStep.engineStep = .next t := by
  by_cases hcfg : s.cfg.interruptTact + s.cfg.longestOpTacts < s.cfg.frameTacts
  · rwa [step_of_usable hcfg] at h
  · rw [step_of_not_usable hcfg] at h
    cases h

/-! ### The invariant (R42, log 6, log 10) -/

theorem State.Inv.endInstr {s : State} (h : s.mem.wf = true) : s.endInstr.Inv := ⟨h, rfl, rfl, rfl⟩

@[simp] theorem reserved_refresh (s : State) : s.refresh.reserved = s.reserved := rfl

@[simp] theorem reserved_leaveHalt (s : State) : s.leaveHalt.reserved = { s.reserved with halted := false } := rfl

theorem State.takeInterrupt_reserved (s : State) (ack : Nat) :
    (s.takeInterrupt ack).reserved = { s.reserved with halted := false } := by simp [takeInterrupt]

theorem State.Inv.takeInterrupt {s : State} (h : s.Inv) (ack : Nat) : (s.takeInterrupt ack).Inv := by
  obtain ⟨hmem, hprefix, hindex, hdisp⟩ := h
  have hkept := s.takeInterrupt_reserved ack
  refine ⟨wf_push (s := (s.leaveHalt.refresh).tick ack) hmem _, ?_, ?_, ?_⟩
  · exact (congrArg Reserved.prefixMode hkept).trans hprefix
  · exact (congrArg Reserved.indexMode hkept).trans hindex
  · exact (congrArg Reserved.heldDisp hkept).trans hdisp

theorem State.Inv.decodeAndExecute {s t : State} (h : s.Inv) (hstep : s.decodeAndExecute = .next t) : t.Inv := by
  obtain ⟨hmem, -⟩ := h
  obtain ⟨u, hu, rfl⟩ := decodeAndExecute_cases hstep
  exact .endInstr (exec_wf s.instrAt_decoded.2 (s := s.beginInstr) hmem hu)

theorem State.Inv.engineStep {s t : State} (h : s.Inv) (hstep : s.engineStep = .next t) : t.Inv := by
  obtain ⟨rfl, -⟩ | rfl | rfl | hint | hinstr := engineStep_cases hstep
  · exact h
  · obtain ⟨hmem, -⟩ := h
    exact ⟨hmem, rfl, rfl, rfl⟩
  · exact Inv.takeInterrupt (s := { s with reqNmi := false, iff1 := false }) h 5
  · obtain ⟨n, w, rfl⟩ := serviceInt_cases hint
    exact Inv.takeInterrupt (s := { s with reqInt := false, iff1 := false, iff2 := false }) h 7
  · exact h.decodeAndExecute hinstr

theorem State.Inv.deviceStep {s : State} (h : s.Inv) : s.deviceStep.Inv := by
  rw [s.deviceStep_does]
  exact h

/-- Settles O18: the device leaves memory and the modes, and each of the five actions of the engine keeps the invariant. -/
theorem invStep : Obligations.InvStep := by
  unfold Obligations.InvStep
  intro s t h hstep
  exact h.deviceStep.engineStep (step_cases hstep)

/-- Settles O19: reset memory lists nothing. -/
theorem invReset : Obligations.InvReset := ⟨reset_mem_wf, rfl, rfl, rfl⟩

/-! ### What an instruction leaves behind -/

theorem State.decodeAndExecute_reserved {s t : State} (h : s.decodeAndExecute = .next t) :
    ∃ u : State, u.reserved = reservedAfter (coreOf s.instrAt) s.beginInstr ∧ t = u.endInstr := by
  obtain ⟨u, hu, rfl⟩ := decodeAndExecute_cases h
  exact ⟨u, exec_reserved s.instrAt_decoded.2 hu, rfl⟩

/-- No opcode behind an ignored prefix is a redundant prefix (R389). -/
theorem isRedundant_coreOf {j : Instr} (hwf : j.wf = true) : isRedundant (coreOf j) = isRedundant j := by
  cases j
  case ixIgnored base | iyIgnored base =>
    have hfree : base.prefixFree = true := (Bool.and_eq_true_iff.mp hwf).1
    show isRedundant base = false
    cases base
    case redundantIxDd | redundantIxFd | redundantIxEd | redundantIyDd | redundantIyFd | redundantIyEd => cases hfree
    all_goals rfl
  all_goals rfl

/-- Settles O12: `beginInstr` clears IntBlocked, and only EI and the redundant prefixes set it. -/
theorem blockedOnlyBy : Obligations.BlockedOnlyBy := by
  unfold Obligations.BlockedOnlyBy
  intro s t h
  obtain ⟨u, hu, rfl⟩ := s.decodeAndExecute_reserved h
  have hset := reservedAfter_intBlocked (coreOf s.instrAt) s.beginInstr
  rw [← hu, isRedundant_coreOf s.instrAt_decoded.1] at hset
  show u.reserved.intBlocked = true ↔ _
  simpa [State.beginInstr] using hset

/-- HALT stands in the table with the prefixed forms written out, never behind an ignored prefix (R389). -/
theorem halt_of_coreOf {j : Instr} (hwf : j.wf = true)
    (h : coreOf j = .halt ∨ coreOf j = .haltIx ∨ coreOf j = .haltIy) : j = .halt ∨ j = .haltIx ∨ j = .haltIy := by
  obtain hself | hfree := coreOf_eq_or_prefixFree hwf
  · rwa [hself] at h
  · obtain e | e | e := h <;> rw [e] at hfree <;> cases hfree

theorem State.serviceNmi_reserved (s : State) :
    s.serviceNmi.reserved = { s.reserved with reqNmi := false, iff1 := false, halted := false } := by
  rw [serviceNmi, reserved_enterAt, takeInterrupt_reserved]
  rfl

theorem State.acceptInt_reserved (s : State) :
    s.acceptInt.reserved = { s.reserved with reqInt := false, iff1 := false, iff2 := false, halted := false } := by
  rw [acceptInt, takeInterrupt_reserved]
  rfl

/-- Settles O16: no action sets a request bit; HALT alone sets Halted, and a halted step finds it set. -/
theorem requestBits : Obligations.RequestBits := by
  unfold Obligations.RequestBits
  intro s t h
  obtain ⟨rfl, hhalt⟩ | rfl | rfl | hint | hinstr := s.engineStep_cases h
  · exact ⟨id, id, id, fun _ => .inl hhalt⟩
  · exact ⟨nofun, nofun, nofun, nofun⟩
  · have hkept := s.serviceNmi_reserved
    simp only [State.reserved, Reserved.mk.injEq] at hkept
    simp [hkept]
  · obtain ⟨n, w, rfl⟩ := s.serviceInt_cases hint
    have hkept := s.acceptInt_reserved
    simp only [State.reserved, Reserved.mk.injEq] at hkept
    simp [hkept]
  · obtain ⟨u, hu, rfl⟩ := s.decodeAndExecute_reserved hinstr
    obtain ⟨hreset, hint, hnmi⟩ := reservedAfter_requests (coreOf s.instrAt) s.beginInstr
    have hhalted := reservedAfter_halted (j := coreOf s.instrAt) (s := s.beginInstr)
    rw [← hu] at hreset hint hnmi hhalted
    exact ⟨hreset.symm.trans, hint.symm.trans, hnmi.symm.trans,
      fun e => (hhalted e).imp_right (halt_of_coreOf s.instrAt_decoded.1)⟩

/-- Settles O25: a sequential instruction ends after its bytes, the byte of an ignored prefix among them. -/
theorem sequentialPc : Obligations.SequentialPc := by
  unfold Obligations.SequentialPc
  intro j s hwf hrow hseq
  obtain ⟨t, ht, hpc⟩ :=
    runTable_pc (inTables_coreOf hwf hrow) ((mayTransfer_coreOf hwf hrow).trans hseq) (coreStart j s)
  exact ⟨t, (exec_eq_runTable hrow s).trans ht, hpc.trans (coreStart_pc_add_size hwf s)⟩

/-- Settles O26: the reserved state changes by the rule of the instruction the term runs, the index registers behind their
prefix. -/
theorem privateRegisters : Obligations.PrivateRegisters := by
  unfold Obligations.PrivateRegisters
  intro j s t hrow h
  have howners := reservedAfter_owners (coreOf j) s
  rw [← exec_reserved hrow h] at howners
  obtain ⟨haf, hsets, hi, him, hiff⟩ := howners
  refine ⟨haf, hsets, hi, him, hiff, fun hchanged => ?_⟩
  obtain ⟨hix, hiy⟩ | hprefix := exec_index hrow h
  · exact hchanged.elim (absurd hix) (absurd hiy)
  · exact hprefix

end Sys2Proof.Machine
end

section
/-! SUPPORT. Registers, pairs and index halves read back as written, each half a part of its pair
(10_state.md R21, R23). -/

namespace Sys2Proof.Machine

theorem r8_setR8 (s : State) (rd rs : Reg8) (v : Byte) : (s.setR8 rd v).r8 rs = if rs = rd then v else s.r8 rs := by
  cases rd <;> cases rs <;> rfl

@[simp] theorem pair_setPair (s : State) (dd : Pair) (w : Word) : (s.setPair dd w).pair dd = w := by
  cases dd
  case sp => rfl
  all_goals exact mkWord_hi_lo w

@[simp] theorem pairQ_setPairQ (s : State) (qq : PairQ) (w : Word) : (s.setPairQ qq w).pairQ qq = w := by
  cases qq <;> exact mkWord_hi_lo w

@[simp] theorem xy_setXy (s : State) (k : Idx) (w : Word) : (s.setXy k w).xy k = w := by
  cases k <;> rfl

@[simp] theorem rx_setRx (s : State) (k : Idx) (rx : RegX) (v : Byte) : (s.setRx k rx v).rx k rx = v := by
  cases rx
  case xh | xl => simp [State.setRx, State.rx]
  all_goals rfl

/-- Settles O31: the laws above, and each write unfolded. -/
theorem registerAliasing : Obligations.RegisterAliasing := by
  unfold Obligations.RegisterAliasing
  intro s rd rs k rx v w dd qq
  refine ⟨rfl, rfl, rfl, rfl, r8_setR8 s rd rs v, pair_setPair s dd w, pairQ_setPairQ s qq w, xy_setXy s k w,
    rx_setRx s k rx v, rfl, rfl, rfl, rfl, rfl, rfl, rfl, rfl, rfl, rfl, rfl, rfl, rfl, rfl, rfl, rfl, rfl, rfl, rfl, rfl,
    rfl, rfl, rfl, rfl, rfl, rfl, rfl, rfl, rfl, rfl, rfl, ?_⟩
  exact ⟨xy_setXy s k _, xy_setXy s k _, rfl, rfl, hi_mkWord v (lo w), lo_mkWord (hi w) v⟩

end Sys2Proof.Machine
end

section
/-! SUPPORT. 43_alu8.md: the flags of the eight ALU operations (R220 to R228), and what half carry, overflow and parity
mean (R34, R35, R9). -/

namespace Sys2Proof.Machine

/-! ### Sum and difference as bytes -/

theorem ofNat_sum (a x : Byte) (c : Bool) :
    BitVec.ofNat 8 (a.toNat + x.toNat + c.toNat) = a + x + (BitVec.ofBool c).setWidth 8 := by
  apply BitVec.eq_of_toNat_eq
  cases c <;> simp [BitVec.toNat_add]

theorem ofInt_difference (a x : Byte) (c : Bool) :
    BitVec.ofInt 8 ((a.toNat : Int) - x.toNat - c.toNat) = a - x - BitVec.ofNat 8 c.toNat := by
  apply BitVec.eq_of_toNat_eq
  have hc := Bool.toNat_le c
  simp only [BitVec.toNat_ofInt, BitVec.toNat_sub, BitVec.toNat_ofNat]
  omega

/-! ### The truth tables (R221 to R228) -/

theorem addWithCarry_flags (a x : Byte) (c : Bool) :
    let res := BitVec.ofNat 8 (a.toNat + x.toNat + c.toNat)
    (addWithCarry a x c).1 = res ∧
    HasFlags (addWithCarry a x c).2 (res.getLsbD 7) (res = 0) (res.getLsbD 5) ((a ^^^ x ^^^ res).getLsbD 4) (res.getLsbD 3)
      (a.getLsbD 7 = x.getLsbD 7 ∧ res.getLsbD 7 ≠ a.getLsbD 7) False (255 < a.toNat + x.toNat + c.toNat) :=
  ⟨rfl, hasFlags_szxy ⟨.rfl, by simp [overflowAdd], by simp, decide_eq_true_iff⟩⟩

theorem subWithBorrow_eq (a x : Byte) (c : Bool) :
    let res := a - x - BitVec.ofNat 8 c.toNat
    subWithBorrow a x c =
      (res, szxy res (halfCarry a x res) (overflowSub a x res) true (decide (a.toNat < x.toNat + c.toNat))) := by
  have hborrow : (a.toNat : Int) - x.toNat - c.toNat < 0 ↔ a.toNat < x.toNat + c.toNat := by omega
  simp only [subWithBorrow, ofInt_difference, hborrow]

theorem subWithBorrow_flags (a x : Byte) (c : Bool) :
    let res := a - x - BitVec.ofNat 8 c.toNat
    (subWithBorrow a x c).1 = res ∧
    HasFlags (subWithBorrow a x c).2 (res.getLsbD 7) (res = 0) (res.getLsbD 5) ((a ^^^ x ^^^ res).getLsbD 4)
      (res.getLsbD 3) (a.getLsbD 7 ≠ x.getLsbD 7 ∧ res.getLsbD 7 ≠ a.getLsbD 7) True (a.toNat < x.toNat + c.toNat) := by
  rw [subWithBorrow_eq]
  exact ⟨rfl, hasFlags_szxy ⟨.rfl, by simp [overflowSub], by simp, decide_eq_true_iff⟩⟩

theorem logical_flags (res : Byte) (h : Bool) :
    (logical res h).1 = res ∧
    HasFlags (logical res h).2 (res.getLsbD 7) (res = 0) (res.getLsbD 5) h (res.getLsbD 3) (parity res) False False :=
  ⟨rfl, hasFlags_szxy ⟨.rfl, .rfl, by simp, by simp⟩⟩

/-- `CP` is `SUB` with `A` kept, and Y and X from the operand (R228). -/
theorem compare8_flags (a x : Byte) :
    let res := a - x - BitVec.ofNat 8 0
    (compare8 a x).1 = a ∧
    HasFlags (compare8 a x).2 (res.getLsbD 7) (res = 0) (x.getLsbD 5) ((a ^^^ x ^^^ res).getLsbD 4) (x.getLsbD 3)
      (a.getLsbD 7 ≠ x.getLsbD 7 ∧ res.getLsbD 7 ≠ a.getLsbD 7) True (a.toNat < x.toNat + 0) := by
  obtain ⟨-, hs, hz, -, hh, -, hpv, hn, hc⟩ := subWithBorrow_flags a x false
  exact ⟨rfl, hasFlags_mkF ⟨hs, hz, .rfl, hh, .rfl, hpv, hn, hc⟩⟩

/-- Settles O43: each operation is one of the four above. -/
theorem aluTables : Obligations.AluTables := by
  unfold Obligations.AluTables
  intro a x c
  exact ⟨addWithCarry_flags a x false, addWithCarry_flags a x c, subWithBorrow_flags a x false,
    subWithBorrow_flags a x c, compare8_flags a x, logical_flags (a &&& x) true,
    logical_flags (a ^^^ x) false, logical_flags (a ||| x) false⟩

/-! ### What the flags mean (R34, R35) -/

/-- The exclusive-or of the operands and the sum shows the carry into bit 4. -/
theorem xor_sum_bit4 (x y : Byte) (c : Bool) :
    (x ^^^ y ^^^ (x + y + (BitVec.ofBool c).setWidth 8)).getLsbD 4 = true ↔
      15 < x.toNat % 16 + y.toNat % 16 + c.toNat := by
  have hcarry : BitVec.carry 4 x y c = true ↔ 15 < x.toNat % 16 + y.toNat % 16 + c.toNat := decide_eq_true_iff
  rw [← hcarry, BitVec.getLsbD_xor, BitVec.getLsbD_xor, BitVec.getLsbD_add_add_bool (by decide)]
  cases x.getLsbD 4 <;> cases y.getLsbD 4 <;> simp

theorem getLsbD_seven (v : Byte) : v.getLsbD 7 = decide (128 ≤ v.toNat) :=
  (BitVec.msb_eq_getLsbD_last v).symm.trans (BitVec.msb_eq_decide v)

theorem halfCarry_sum (a x : Byte) (c : Bool) :
    (a ^^^ x ^^^ BitVec.ofNat 8 (a.toNat + x.toNat + c.toNat)).getLsbD 4 = true ↔
      15 < a.toNat % 16 + x.toNat % 16 + c.toNat := by
  rw [ofNat_sum]
  exact xor_sum_bit4 a x c

theorem toNat_sum (x y : Byte) (c : Bool) :
    (x + y + (BitVec.ofBool c).setWidth 8).toNat = (x.toNat + y.toNat + c.toNat) % 256 := by
  rw [← ofNat_sum, BitVec.toNat_ofNat]

/-- A difference is what the subtrahend and the borrow are added to, to give the minuend. -/
theorem eq_difference_add (a x : Byte) (c : Bool) :
    a = a - x - BitVec.ofNat 8 c.toNat + x + (BitVec.ofBool c).setWidth 8 := by
  cases c
  · simp
  · show a = a - x - 1#8 + x + 1#8
    bv_omega

/-- So a borrow from bit 4 is the carry into bit 4 of that sum. -/
theorem halfBorrow_difference (a x : Byte) (c : Bool) :
    (a ^^^ x ^^^ (a - x - BitVec.ofNat 8 c.toNat)).getLsbD 4 = true ↔ a.toNat % 16 < x.toNat % 16 + c.toNat := by
  have hback := eq_difference_add a x c
  generalize a - x - BitVec.ofNat 8 c.toNat = res at hback ⊢
  have hcarry := xor_sum_bit4 res x c
  have hnat := toNat_sum res x c
  rw [← hback] at hcarry hnat
  rw [BitVec.xor_comm a, BitVec.xor_comm _ res, ← BitVec.xor_assoc, hcarry]
  omega

theorem overflow_sum (a x : Byte) (c : Bool) :
    overflowAdd a x (BitVec.ofNat 8 (a.toNat + x.toNat + c.toNat)) = true ↔
      a.toInt + x.toInt + c.toNat < -128 ∨ 127 < a.toInt + x.toInt + c.toNat := by
  have hc := Bool.toNat_le c
  simp only [overflowAdd, getLsbD_seven, BitVec.toInt_eq_toNat_cond, BitVec.toNat_ofNat, Bool.and_eq_true, beq_iff_eq,
    bne_iff_ne, ne_eq, decide_eq_decide]
  omega

theorem overflow_difference (a x : Byte) (c : Bool) :
    overflowSub a x (a - x - BitVec.ofNat 8 c.toNat) = true ↔
      a.toInt - x.toInt - c.toNat < -128 ∨ 127 < a.toInt - x.toInt - c.toNat := by
  have hc := Bool.toNat_le c
  simp only [overflowSub, getLsbD_seven, BitVec.toInt_eq_toNat_cond, BitVec.toNat_sub, BitVec.toNat_ofNat,
    Bool.and_eq_true, bne_iff_ne, ne_eq, decide_eq_decide]
  omega

theorem parity_iff (v : Byte) : parity v = true ↔ ((List.range 8).countP fun n => v.getLsbD n) % 2 = 0 := by
  revert v
  decide

/-- Settles O44: H and PV are the exclusive-or formulas of R220, and the lemmas above say what those mean. -/
theorem flagMeaning : Obligations.FlagMeaning := by
  unfold Obligations.FlagMeaning
  refine ⟨fun a x c => ?_, parity_iff⟩
  rw [subWithBorrow_eq]
  simp only [addWithCarry, szxy, flagH_mkF, flagPV_mkF]
  exact ⟨halfCarry_sum a x c, overflow_sum a x c, halfBorrow_difference a x c, overflow_difference a x c⟩

end Sys2Proof.Machine
end

section
/-! SUPPORT. 47_control.md: the conditions (R37) and the jumps (R330 to R336), each with the whole state it leaves. -/

namespace Sys2Proof.Machine

/-- A relative jump after its two fetches (R332): the target counts from the next instruction. -/
theorem jumpRelative_frame (s : State) (e : Byte) :
    let t := s.fetchOpcode.fetchByte.jumpRelative e
    t = { s with mw := s.pc + 2 + sext16 e }.ran t ∧ t.pc = s.pc + 2 + sext16 e := by
  simp [State.jumpRelative, State.ran, State.ext_iff]

theorem jpNn_runs (s : State) (nn : Word) :
    Runs (.jpNn nn) s fun t => t = { s with mw := nn }.ran t ∧ t.pc = nn :=
  ⟨_, rfl, by simp [State.ran, State.ext_iff], rfl⟩

theorem jpCcNn_runs (s : State) (cc : Cond) (nn : Word) :
    Runs (.jpCcNn cc nn) s fun t => t = { s with mw := nn }.ran t ∧ t.pc = if s.cond cc then nn else s.pc + 3 := by
  refine ⟨_, rfl, ?_⟩
  by_cases h : s.cond cc = true
  · simp [jumpIf, h, State.ran, State.ext_iff]
  · simp [jumpIf, h, State.ran, State.ext_iff]

theorem jpHl_runs (s : State) : Runs .jpHl s fun t => t = s.ran t ∧ t.pc = s.hl :=
  ⟨_, rfl, by simp [State.ran, State.ext_iff], rfl⟩

theorem jpXy_runs (s : State) (k : Idx) : Runs (k.pick .jpIx .jpIy) s fun t => t = s.ran t ∧ t.pc = s.xy k := by
  cases k <;> exact ⟨_, rfl, by simp [State.ran, State.ext_iff], rfl⟩

theorem jr_runs (s : State) (e : Byte) :
    Runs (.jr e) s fun t => t = { s with mw := s.pc + 2 + sext16 e }.ran t ∧ t.pc = s.pc + 2 + sext16 e :=
  ⟨_, rfl, jumpRelative_frame s e⟩

theorem jrCc_runs (s : State) (cc : Cond) (e : Byte) :
    Runs (.jrCc cc e) s fun t =>
      if s.cond cc then t = { s with mw := s.pc + 2 + sext16 e }.ran t ∧ t.pc = s.pc + 2 + sext16 e
      else t = s.ran t ∧ t.pc = s.pc + 2 := by
  refine ⟨_, rfl, ?_⟩
  by_cases h : s.cond cc = true
  · simpa [jumpRelativeIf, h] using jumpRelative_frame s e
  · simp [jumpRelativeIf, h, State.ran, State.ext_iff]

/-- `B` counts down to 0 exactly from 1 (R336). -/
theorem djnz_runs (s : State) (e : Byte) :
    Runs (.djnz e) s fun t =>
      if s.b = 1 then t = { s with b := 0 }.ran t ∧ t.pc = s.pc + 2
      else t = { s with b := s.b - 1, mw := s.pc + 2 + sext16 e }.ran t ∧ t.pc = s.pc + 2 + sext16 e := by
  refine ⟨_, rfl, ?_⟩
  by_cases h : s.b = 1#8
  · simp [countAndJump, h, State.ran, State.ext_iff]
  · have hlast : ¬ s.b - 1#8 = 0#8 := fun e => h (sub_eq_zero.mp e)
    simp [countAndJump, h, hlast, State.jumpRelative, State.ran, State.ext_iff]

/-- Settles O53: each condition reads its flag, and each jump runs as above. -/
theorem jumps : Obligations.Jumps := by
  unfold Obligations.Jumps
  intro s cc nn e k
  have hneg (v : Bool) : (!v) = true ↔ v = false := Eq.to_iff v.not_eq_true'
  exact ⟨hneg _, .rfl, hneg _, .rfl, hneg _, .rfl, hneg _, .rfl, jpNn_runs s nn, jpCcNn_runs s cc nn, jpHl_runs s,
    jpXy_runs s k, jr_runs s e, jrCc_runs s cc e, djnz_runs s e⟩

end Sys2Proof.Machine
end

section
/-! SUPPORT. No step writes the ROM or the configuration (20_memory.md R68, log 1): every write of memory goes through
`writeByte`, which leaves a ROM byte as it is. -/

namespace Sys2Proof.Machine

/-- From `s` to `t` the configuration and every byte whose address is ROM stay. -/
def RomFixed (s t : State) : Prop :=
  t.cfg = s.cfg ∧ ∀ x, s.isRom x = true → t.peek x = s.peek x

theorem RomFixed.of_mem {s t : State} (hcfg : t.cfg = s.cfg) (hmem : t.mem = s.mem) : RomFixed s t :=
  ⟨hcfg, fun _ _ => by rw [State.peek, hmem, State.peek]⟩

theorem RomFixed.trans {s t u : State} (hst : RomFixed s t) (htu : RomFixed t u) : RomFixed s u := by
  obtain ⟨hcfg, hrom⟩ := hst
  obtain ⟨hcfg', hrom'⟩ := htu
  refine ⟨hcfg'.trans hcfg, fun x hx => ?_⟩
  have hx' : t.isRom x = true := by rwa [State.isRom, hcfg]
  exact (hrom' x hx').trans (hrom x hx)

theorem romFixed_push (s : State) (w : Word) : RomFixed s (s.push w) :=
  ⟨by simp [State.push], fun x hx => by simp [State.push, peek_writeByte_rom, hx]⟩

/-! ### An instruction -/

/-- The configuration is no instruction's to change (log 1). -/
theorem reservedAfter_cfg (j : Instr) (s : State) : (reservedAfter j s).cfg = s.cfg := by
  unfold reservedAfter
  split <;> rfl

theorem exec_cfg {j : Instr} {s t : State} (hrow : j.isPrefixRow = false) (h : exec j s = .next t) : t.cfg = s.cfg :=
  (congrArg Reserved.cfg (exec_reserved hrow h)).trans (reservedAfter_cfg _ s)

/-! The block operations, whatever their step -/

theorem peek_blockLoad_rom (step : Word) {s : State} {x : Word} (hx : s.isRom x = true) :
    (blockLoad step s).peek x = s.peek x := by
  simp [blockLoad, peek_writeByte_rom, hx]

theorem peek_blockLoadRepeat_rom (step : Word) {s : State} {x : Word} (hx : s.isRom x = true) :
    (blockLoadRepeat step s).peek x = s.peek x := by
  unfold blockLoadRepeat
  dsimp only
  split <;> simp [peek_blockLoad_rom, hx]

@[simp] theorem peek_blockCompare (step : Word) (s : State) (x : Word) : (blockCompare step s).peek x = s.peek x := by
  simp [blockCompare]

@[simp] theorem peek_blockCompareRepeat (step : Word) (s : State) (x : Word) :
    (blockCompareRepeat step s).peek x = s.peek x := by
  unfold blockCompareRepeat
  dsimp only
  split <;> simp

theorem peek_blockIn_rom (step : Word) {s : State} {x : Word} (hx : s.isRom x = true) :
    (blockIn step s).peek x = s.peek x := by
  simp [blockIn, peek_writeByte_rom, hx]

@[simp] theorem peek_blockOut (step : Word) (s : State) (x : Word) : (blockOut step s).peek x = s.peek x := by
  simp [blockOut]

@[simp] theorem peek_blockIoRepeat (pc0 : Word) (t : State) (x : Word) : (blockIoRepeat pc0 t).peek x = t.peek x := by
  unfold blockIoRepeat
  split <;> simp

/-- The address stays ROM through the instruction, so each of its writes passes it by. -/
theorem runTable_peek_rom {j : Instr} (h : j.inTables = true) {s : State} {x : Word} (hx : s.isRom x = true) :
    ∃ t, runTable j s = .next t ∧ t.peek x = s.peek x := by
  cases j
  case cbPrefix | ddPrefix | edPrefix | fdPrefix | ixCbPrefix | iyCbPrefix | ixIgnored | iyIgnored => cases h
  all_goals refine ⟨_, rfl, ?_⟩
  case exAfAf | exx | reti | retn | halt | haltIx | haltIy =>
    simp [State.peek, exchangeAf, exchangeSets, returnFromInterrupt, State.returnFromStack, State.popCycles, enterHalt]
  all_goals simp [peek_writeByte_rom, peek_blockLoad_rom, peek_blockLoadRepeat_rom, peek_blockIn_rom, hx,
    apply_ite (State.peek · x), aluReg, aluImm, aluMemHl, aluMemIdx, aluHalf, aluWith, incReg, decReg, incHalf, decHalf,
    accFlags, negate, modifyIdxCbCopy, modifyIdxCb, modifyMem, rotateAcc, rotateReg, rotateDigit, bitReg, bitMemHl,
    bitMemIdx, addHl, adcHl, sbcHl, addXy, exchangeTop, portOutImm, portInImm, portInFlags, portInReg, portOutBc,
    loadWordCycles, storeWord, storeA, loadA, loadSpecial, loadIdxReg, storeIdxReg, storeIdxImm,
    State.push, State.popCycles, State.jumpRelative, State.returnFromStack, callTo, countAndJump, jumpRelativeIf,
    jumpIf, callIf, returnIf]

theorem exec_romFixed {j : Instr} {s t : State} (hrow : j.isPrefixRow = false) (h : exec j s = .next t) :
    RomFixed s t := by
  refine ⟨exec_cfg hrow h, fun x hx => ?_⟩
  rw [exec_eq_runTable hrow] at h
  have hstart : (coreStart j s).isRom x = true ∧ (coreStart j s).peek x = s.peek x := by
    obtain e | e := coreStart_cases j s <;> rw [e] <;> exact ⟨hx, rfl⟩
  obtain ⟨hrom, hpeek⟩ := hstart
  exact (next_of_exists h (runTable_peek_rom (inTables_of_runTable h) hrom)).trans hpeek

/-! ### The actions of a step -/

theorem State.takeInterrupt_romFixed (s : State) (ack : Nat) : RomFixed s (s.takeInterrupt ack) :=
  .trans (t := (s.leaveHalt.refresh).tick ack) (.of_mem rfl rfl) (romFixed_push _ _)

theorem State.decodeAndExecute_romFixed {s t : State} (h : s.decodeAndExecute = .next t) : RomFixed s t := by
  obtain ⟨u, hu, rfl⟩ := decodeAndExecute_cases h
  have hbegin : RomFixed s s.beginInstr := .of_mem rfl rfl
  have hend : RomFixed u u.endInstr := .of_mem rfl rfl
  exact (hbegin.trans (exec_romFixed s.instrAt_decoded.2 hu)).trans hend

theorem State.engineStep_romFixed {s t : State} (h : s.engineStep = .next t) : RomFixed s t := by
  obtain ⟨rfl, -⟩ | rfl | rfl | hint | hinstr := engineStep_cases h
  · exact .of_mem rfl rfl
  · exact .of_mem rfl rfl
  · exact State.takeInterrupt_romFixed { s with reqNmi := false, iff1 := false } 5
  · obtain ⟨n, w, rfl⟩ := serviceInt_cases hint
    exact State.takeInterrupt_romFixed { s with reqInt := false, iff1 := false, iff2 := false } 7
  · exact decodeAndExecute_romFixed hinstr

theorem State.deviceStep_romFixed (s : State) : RomFixed s s.deviceStep :=
  .of_mem s.deviceStep_cfg (congrArg mem s.deviceStep_does :)

/-- Settles O17: the device and each of the five actions of the engine leave the ROM and the configuration. -/
theorem romAndConfigFixed : Obligations.RomAndConfigFixed := by
  unfold Obligations.RomAndConfigFixed
  intro s t h
  exact s.deviceStep_romFixed.trans (State.engineStep_romFixed (step_cases h))

end Sys2Proof.Machine
end

section
/-! SUPPORT. The port history (20_memory.md R69, R75, log 5): it grows at its end, by one event for each port access, and
no step makes two. -/

namespace Sys2Proof.Machine

/-- The history of `t` is that of `s` and at most one event after it. -/
def AddsPortEvent (s t : State) : Prop := t.ports = s.ports ∨ ∃ ev, t.ports = s.ports ++ [ev]

/-! ### An instruction -/

@[simp] theorem ports_push (s : State) (w : Word) : (s.push w).ports = s.ports := by simp [State.push]
@[simp] theorem ports_popCycles (s : State) : s.popCycles.ports = s.ports := by simp [State.popCycles]

/-! Each of the block operations, whatever its step. -/

@[simp] theorem ports_blockLoad (step : Word) (s : State) : (blockLoad step s).ports = s.ports := by simp [blockLoad]

@[simp] theorem ports_blockCompare (step : Word) (s : State) : (blockCompare step s).ports = s.ports := by
  simp [blockCompare]

@[simp] theorem ports_blockIoRepeat (pc0 : Word) (t : State) : (blockIoRepeat pc0 t).ports = t.ports := by
  unfold blockIoRepeat
  split <;> simp

/-- The instructions of 48_io.md make one port access, the others none. -/
theorem runTable_addsPortEvent {j : Instr} (h : j.inTables = true) (s : State) :
    ∃ t, runTable j s = .next t ∧ AddsPortEvent s t := by
  cases j
  case cbPrefix | ddPrefix | edPrefix | fdPrefix | ixCbPrefix | iyCbPrefix | ixIgnored | iyIgnored => cases h
  all_goals refine ⟨_, rfl, ?_⟩
  case outNA | inAN | inC | outC0 | outCR | ini | ind | outi | outd | inir | indr | otir | otdr | inRC =>
    exact .inr (by simp [portOutImm, portInImm, portInFlags, portInReg, portOutBc, blockIn, blockOut])
  all_goals refine .inl ?_
  all_goals simp [apply_ite State.ports, aluReg, aluImm, aluMemHl, aluMemIdx, aluHalf, aluWith, incReg, decReg,
    incHalf, decHalf, accFlags, negate, modifyIdxCbCopy, modifyIdxCb, modifyMem, rotateAcc, rotateReg, rotateDigit,
    bitReg, bitMemHl, bitMemIdx, addHl, adcHl, sbcHl, addXy, exchangeTop, blockLoadRepeat, blockCompareRepeat,
    loadWordCycles, storeWord, storeA, loadA, loadSpecial, loadIdxReg, storeIdxReg, storeIdxImm, State.jumpRelative,
    State.returnFromStack, callTo, countAndJump, jumpRelativeIf, jumpIf, callIf, returnIf, exchangeAf, exchangeSets,
    returnFromInterrupt, enterHalt]

theorem exec_addsPortEvent {j : Instr} {s t : State} (hrow : j.isPrefixRow = false) (h : exec j s = .next t) :
    AddsPortEvent s t := by
  rw [exec_eq_runTable hrow] at h
  have hcore := next_of_exists h (runTable_addsPortEvent (inTables_of_runTable h) _)
  obtain e | e := coreStart_cases j s <;> rw [e] at hcore <;> exact hcore

/-! ### The actions of a step -/

theorem ports_takeInterrupt (s : State) (ack : Nat) : (s.takeInterrupt ack).ports = s.ports := by
  simp [State.takeInterrupt]

theorem State.engineStep_addsPortEvent {s t : State} (h : s.engineStep = .next t) : AddsPortEvent s t := by
  obtain ⟨rfl, -⟩ | rfl | rfl | hint | hinstr := engineStep_cases h
  · exact .inl rfl
  · exact .inl rfl
  · exact .inl (ports_takeInterrupt { s with reqNmi := false, iff1 := false } 5)
  · obtain ⟨n, w, rfl⟩ := serviceInt_cases hint
    exact .inl (ports_takeInterrupt { s with reqInt := false, iff1 := false, iff2 := false } 7)
  · obtain ⟨u, hu, rfl⟩ := decodeAndExecute_cases hinstr
    have hadds : AddsPortEvent s.beginInstr u := exec_addsPortEvent s.instrAt_decoded.2 hu
    exact hadds

/-- Settles O21: the device leaves the history, and of the five actions of the engine only an instruction adds to it. -/
theorem portHistory : Obligations.PortHistory := by
  unfold Obligations.PortHistory
  intro s t h
  have hdevice : s.deviceStep.ports = s.ports := (congrArg State.ports s.deviceStep_does :)
  have hstep := State.engineStep_addsPortEvent (step_cases h)
  rw [AddsPortEvent, hdevice] at hstep
  obtain hsame | ⟨ev, hone⟩ := hstep
  · exact ⟨[], by simpa using hsame, Nat.zero_le 1⟩
  · exact ⟨[ev], hone, Nat.le_refl 1⟩

end Sys2Proof.Machine
end

section
/-! SUPPORT. Contention (20_memory.md R70 to R73): the accesses of an instruction one after the other, and the table as a
list of bands (log 3). -/

namespace Sys2Proof.Machine

/-! ### The accesses of an instruction -/

/-- Each access begins where the ones before it have led; nothing an instruction does moves the contended addresses. -/
theorem accesses_wait (s : State) (rr : Reg8) (qq : PairQ) (n d : Byte) (k : Idx) :
    let mem (x : Word) (begins : Tact) : Tact := afterContend s.cfg (s.contendedAddr x) begins
    let port (p : Word) (begins : Tact) : Tact := afterContend s.cfg (s.contendedPort p) begins
    let t1 := mem s.pc s.tacts + 4
    let t2 := mem (s.pc + 1) t1
    let x := s.xy k + sext16 d
    let read := mem s.hl t1 + 3
    let pushed := mem (s.sp - 1) (t1 + 1) + 3
    let q := mkWord s.a n
    Runs .nop s (fun t => t.tacts = t1) ∧
    Runs (.ldRN rr n) s (fun t => t.tacts = t2 + 3) ∧
    Runs (.ldRMemHl rr) s (fun t => t.tacts = read) ∧
    Runs (.ldMemHlR rr) s (fun t => t.tacts = read) ∧
    Runs (k.pick (.ldRMemIx rr d) (.ldRMemIy rr d)) s (fun t =>
      t.tacts = mem x (mem (s.pc + 2) (t2 + 4) + 3 + 5) + 3) ∧
    Runs .incMemHl s (fun t => t.tacts = mem s.hl (read + 1) + 3) ∧
    Runs (.pushQq qq) s (fun t => t.tacts = mem (s.sp - 2) pushed + 3) ∧
    Runs (.outNA n) s (fun t => t.tacts = port q (t2 + 3) + 4 ∧
      t.ports = s.ports ++ [PortEvent.output q s.a (port q (t2 + 3))]) ∧
    Runs (.inAN n) s (fun t => t.tacts = port q (t2 + 3) + 4) := by
  intro mem port t1 t2 x read pushed q
  refine ⟨⟨_, rfl, ?nop⟩, ⟨_, rfl, ?loadImm⟩, ⟨_, rfl, ?load⟩, ⟨_, rfl, ?store⟩, ?loadIdx, ⟨_, rfl, ?modify⟩,
    ⟨_, rfl, ?push⟩, ⟨_, rfl, ?out, ?event⟩, ⟨_, rfl, ?input⟩⟩
  case loadIdx =>
    cases k <;> refine ⟨_, rfl, ?_⟩
    all_goals simp [mem, t1, t2, x, afterContend, State.waitMem, State.contendedAddr, State.frameTact, loadIdxReg,
      State.idxAddr]
  case out | event | input =>
    simp [mem, port, t1, t2, q, afterContend, State.waitMem, State.contendedAddr, State.frameTact, State.portTact,
      State.waitPort, State.contendedPort, portOutImm, portInImm]
  all_goals simp [mem, t1, t2, read, pushed, afterContend, State.waitMem, State.contendedAddr, State.frameTact, modifyMem,
    State.push]

/-! ### The table (R72, log 3) -/

/-- No tact outside its window is a band's own. -/
theorem bandCovers_outside {g : ContentionBand} {ft : Nat} (h : ft < g.start ∨ g.start + g.lines * g.lineTacts ≤ ft) :
    bandCovers g ft = false := by
  obtain h | h := h
  · simp [bandCovers, Nat.not_le.mpr h]
  · simp [bandCovers, Nat.not_lt.mpr h]

/-- Where the tact `p` of a scanline stands. -/
theorem lineTact_mod (g : ContentionBand) (line : Nat) {p : Nat} (hp : p < g.lineTacts) :
    (g.start + line * g.lineTacts + p - g.start) % g.lineTacts = p := by
  rw [Nat.add_assoc, Nat.add_sub_cancel_left, Nat.mul_add_mod_of_lt hp]

theorem lineTact_div (g : ContentionBand) (line : Nat) {p : Nat} (hp : p < g.lineTacts) :
    (g.start + line * g.lineTacts + p - g.start) / g.lineTacts = line := by
  have hpos : 0 < g.lineTacts := Nat.zero_lt_of_lt hp
  rw [Nat.add_assoc, Nat.add_sub_cancel_left, Nat.mul_comm, Nat.mul_add_div hpos, Nat.div_eq_of_lt hp, Nat.add_zero]

/-- Nor is a tact in the border part of a scanline its own. -/
theorem bandCovers_border {g : ContentionBand} (line : Nat) {p : Nat} (hp : p < g.lineTacts) (hborder : g.activeTacts ≤ p) :
    bandCovers g (g.start + line * g.lineTacts + p) = false := by
  simp [bandCovers, lineTact_mod g line hp, hborder]

/-- In the active part the pattern gives the wait, shifted by the phase of the scanline. -/
theorem contentionAt_active {g : ContentionBand} {line p : Nat} (hline : line < g.lines) (hactive : p < g.activeTacts)
    (hp : p < g.lineTacts) (rest : List ContentionBand) :
    contentionAt (g :: rest) (g.start + line * g.lineTacts + p) = g.pattern.getD ((p + line * g.phaseStep) % 8) 0 := by
  have hcovers := (bandCovers_iff g _).mpr ⟨line, p, hline, hp, hactive, rfl⟩
  rw [contentionAt_covered hcovers, bandWait, lineTact_mod g line hp, lineTact_div g line hp]

theorem contentionAt_period {g : ContentionBand} {line p : Nat} (hline : line < g.lines) (hactive : p + 8 < g.activeTacts)
    (hp : p + 8 < g.lineTacts) (rest : List ContentionBand) :
    contentionAt (g :: rest) (g.start + line * g.lineTacts + (p + 8)) =
      contentionAt (g :: rest) (g.start + line * g.lineTacts + p) := by
  have hphase : (p + 8 + line * g.phaseStep) % 8 = (p + line * g.phaseStep) % 8 := by omega
  rw [contentionAt_active hline hactive hp, contentionAt_active hline (by omega) (by omega), hphase]

/-- The one band of the default table (R72). -/
def displayBand : ContentionBand :=
  { start := 14335, lines := 192, lineTacts := 224, activeTacts := 128, phaseStep := 0
    pattern := [6, 5, 4, 3, 2, 1, 0, 0] }

theorem base_contention : Config.base.contention = [displayBand] := rfl

theorem base_contentionAt (ft : Nat) :
    contentionAt Config.base.contention ft =
      if ft < 14335 ∨ 14335 + 192 * 224 ≤ ft then 0
      else
        let pos := (ft - 14335) % 224
        if 128 ≤ pos then 0 else [6, 5, 4, 3, 2, 1, 0, 0].getD (pos % 8) 0 := by
  rw [base_contention]
  split
  case isTrue hout => exact contentionAt_uncovered (bandCovers_outside hout) []
  case isFalse hin =>
    have hft : displayBand.start + (ft - 14335) / 224 * displayBand.lineTacts + (ft - 14335) % 224 = ft := by
      show 14335 + (ft - 14335) / 224 * 224 + (ft - 14335) % 224 = ft
      omega
    have hp : (ft - 14335) % 224 < displayBand.lineTacts := Nat.mod_lt _ (by decide)
    dsimp only
    split
    case isTrue hborder =>
      have hnone := bandCovers_border ((ft - 14335) / 224) hp hborder
      rw [hft] at hnone
      exact contentionAt_uncovered hnone []
    case isFalse hactive =>
      have hline : (ft - 14335) / 224 < displayBand.lines := by
        show (ft - 14335) / 224 < 192
        omega
      have hwait := contentionAt_active hline (Nat.not_le.mp hactive) hp []
      rw [hft] at hwait
      exact hwait.trans (by simp [displayBand])

/-- Settles O20: a primitive adds its wait by definition, and the table is read as above. -/
theorem contention : Obligations.Contention := by
  unfold Obligations.Contention
  refine ⟨fun s x v => ⟨rfl, rfl, rfl, rfl, rfl, rfl, rfl, rfl, rfl⟩, accesses_wait, fun g rest ft line p => ?_,
    fun f frame => ?_, base_contentionAt⟩
  · exact ⟨rfl, fun hout => contentionAt_uncovered (bandCovers_outside hout) rest,
      fun hp hborder => contentionAt_uncovered (bandCovers_border line hp hborder) rest,
      fun hline hactive hp => contentionAt_period hline hactive hp rest,
      fun hline hactive hp => contentionAt_active hline hactive hp rest⟩
  · obtain ⟨k, hk⟩ := contention_covers_every_table f frame
    exact ⟨k, fun ft hft => (hk ft).trans (if_pos hft)⟩

end Sys2Proof.Machine
end

section
/-! SUPPORT. Encoding what was decoded (30_encoding.md R106, R110): the four bytes begin with the encoding of the instruction
they decode to. The operand bytes go through every table as they are, so the 256 opcodes of each are checked cell by
cell. -/

namespace Sys2Proof

/-! ### Operand bytes -/

/-- `bs` with the operand bytes in place of all but its first `n`. -/
def withOperands (n : Nat) (bs operands : List Byte) : List Byte := bs.take n ++ operands.take (bs.length - n)

theorem withOperands_prefix {n : Nat} {bs opcode : List Byte} (h : bs.take n = opcode) (operands : List Byte) :
    withOperands n bs operands <+: opcode ++ operands := by
  rw [withOperands, h, List.prefix_append_right_inj]
  exact List.take_prefix _ _

/-- `j` is encoded as `j0`, with the operand bytes after the first `n`. -/
def CarriesOperands (n : Nat) (j j0 : Instr) (operands : List Byte) : Prop :=
  j.encode = withOperands n j0.encode operands ∧ j.size = j0.size

theorem carriesOperands_of_length {n : Nat} {j : Instr} (h : j.encode.length = n) (operands : List Byte) :
    CarriesOperands n j j operands := ⟨by simp [withOperands, ← h], rfl⟩

theorem aluMemHlOf_carries (y : Nat) (operands : List Byte) :
    CarriesOperands 1 (aluMemHlOf y) (aluMemHlOf y) operands := by
  unfold aluMemHlOf
  split <;> exact carriesOperands_of_length rfl operands

theorem aluROf_carries (y : Nat) (rr : Reg8) (operands : List Byte) :
    CarriesOperands 1 (aluROf y rr) (aluROf y rr) operands := by
  unfold aluROf
  split <;> exact carriesOperands_of_length rfl operands

theorem aluNOf_carries (y : Nat) (n b2 : Byte) : CarriesOperands 1 (aluNOf y n) (aluNOf y 0) [n, b2] := by
  unfold aluNOf
  split <;> exact ⟨rfl, rfl⟩

theorem blockOf_carries (y z : Nat) (operands : List Byte) :
    CarriesOperands 2 (blockOf y z) (blockOf y z) operands := by
  unfold blockOf
  split <;> exact carriesOperands_of_length rfl operands

theorem decodeBase_carries (op b1 b2 : Byte) :
    CarriesOperands 1 (decodeBase op b1 b2) (decodeBase op 0 0) [b1, b2] := by
  unfold decodeBase
  dsimp only
  repeat' split
  case h_10.isTrue => exact aluMemHlOf_carries _ _
  case h_10.isFalse => exact aluROf_carries _ _ _
  case h_17 => exact aluNOf_carries _ b1 b2
  all_goals exact ⟨by simp [Instr.encode, withOperands], rfl⟩

theorem decodeEd_carries (op b1 b2 : Byte) : CarriesOperands 2 (decodeEd op b1 b2) (decodeEd op 0 0) [b1, b2] := by
  unfold decodeEd
  dsimp only
  repeat' split
  case h_9.isTrue => exact blockOf_carries _ _ _
  all_goals exact ⟨by simp [Instr.encode, withOperands], rfl⟩

theorem decodeXy_carries (k : Idx) (op b1 b2 : Byte) :
    (decodeXy k op b1 b2).map (fun r => (r.1.encode, r.1.size, r.2)) =
      (decodeXy k op 0 0).map fun r => (withOperands 2 r.1.encode [b1, b2], r.1.size, r.2) := by
  unfold decodeXy
  dsimp only
  cases k <;> repeat' split
  all_goals simp [Instr.encode, withOperands, Idx.pick, Instr.size]

/-- Of the indexed bit forms the displacement is the third byte (R104). -/
theorem decodeIdxCb_carries (k : Idx) (d op : Byte) :
    (decodeIdxCb k d op).encode = (decodeIdxCb k 0 op).encode.set 2 d ∧
    (decodeIdxCb k d op).size = (decodeIdxCb k 0 op).size := by
  unfold decodeIdxCb
  dsimp only
  cases k <;> repeat' split
  all_goals exact ⟨rfl, rfl⟩

/-! ### The tables, cell by cell -/

/-- The byte that selects the index register (R101). -/
def Idx.prefixByte (k : Idx) : Byte := k.pick 0xDD 0xFD

theorem decodeBase_encode (op b1 b2 : Byte) :
    (decodeBase op b1 b2).encode <+: [op, b1, b2] ∧ (decodeBase op b1 b2).size = baseLength op := by
  obtain ⟨hencode, hsize⟩ := decodeBase_carries op b1 b2
  have hcell : (decodeBase op 0 0).encode.take 1 = [op] ∧ (decodeBase op 0 0).size = baseLength op := by
    clear hencode hsize
    revert op
    decide
  exact ⟨hencode ▸ withOperands_prefix hcell.1 [b1, b2], hsize.trans hcell.2⟩

theorem decodeCb_encode : ∀ op : Byte, (decodeCb op).encode = [0xCB, op] ∧ (decodeCb op).size = 2 := by decide

theorem decodeEd_encode (op b1 b2 : Byte) :
    (decodeEd op b1 b2).encode <+: [0xED, op, b1, b2] ∧ (decodeEd op b1 b2).size = edLength op := by
  obtain ⟨hencode, hsize⟩ := decodeEd_carries op b1 b2
  have hcell : (decodeEd op 0 0).encode.take 2 = [0xED, op] ∧ (decodeEd op 0 0).size = edLength op := by
    clear hencode hsize
    revert op
    decide
  exact ⟨hencode ▸ withOperands_prefix hcell.1 [b1, b2], hsize.trans hcell.2⟩

theorem decodeIdxCb_encode (k : Idx) (d op : Byte) :
    (decodeIdxCb k d op).encode = [k.prefixByte, 0xCB, d, op] ∧ (decodeIdxCb k d op).size = 4 := by
  obtain ⟨hencode, hsize⟩ := decodeIdxCb_carries k d op
  have hcell : (decodeIdxCb k 0 op).encode = [k.prefixByte, 0xCB, 0, op] ∧ (decodeIdxCb k 0 op).size = 4 := by
    clear hencode hsize
    revert op
    cases k <;> decide
  exact ⟨by rw [hencode, hcell.1]; rfl, hsize.trans hcell.2⟩

theorem decodeXy_encode {k : Idx} {op b1 b2 : Byte} {r : Instr × Nat} (h : decodeXy k op b1 b2 = some r) :
    r.1.encode <+: [k.prefixByte, op, b1, b2] ∧ r.1.size = r.2 := by
  have hcells : (decodeXy k op 0 0).all fun r => r.1.encode.take 2 == [k.prefixByte, op] && r.1.size == r.2 := by
    clear h
    revert op
    cases k <;> decide
  have hcarries := decodeXy_carries k op b1 b2
  rw [h] at hcarries
  obtain ⟨r0, hr0, hcarried⟩ := Option.map_eq_some_iff.mp hcarries.symm
  simp only [Prod.mk.injEq] at hcarried
  obtain ⟨hencode, hsize, hcount⟩ := hcarried
  obtain ⟨hopcode, hcell⟩ : r0.1.encode.take 2 = [k.prefixByte, op] ∧ r0.1.size = r0.2 := by
    rw [hr0] at hcells
    simpa using hcells
  exact ⟨hencode ▸ withOperands_prefix hopcode [b1, b2], by rw [← hsize, hcell, hcount]⟩

/-! ### The decoder -/

theorem decodeIndexed_encode (k : Idx) (b1 b2 b3 : Byte) :
    (decodeIndexed k b1 b2 b3).1.encode <+: [k.prefixByte, b1, b2, b3] ∧
    (decodeIndexed k b1 b2 b3).1.size = (decodeIndexed k b1 b2 b3).2 := by
  unfold decodeIndexed
  split
  · next h => cases k <;> exact ⟨⟨[b2, b3], by rw [h]; rfl⟩, rfl⟩
  split
  · next h => cases k <;> exact ⟨⟨[b2, b3], by rw [h]; rfl⟩, rfl⟩
  split
  · next h => cases k <;> exact ⟨⟨[b2, b3], by rw [h]; rfl⟩, rfl⟩
  split
  · next h =>
    obtain ⟨hencode, hsize⟩ := decodeIdxCb_encode k b2 b3
    exact ⟨by rw [hencode, h], hsize⟩
  split
  · next h => exact decodeXy_encode h
  · next hdd hfd hed hcb _ h =>
    obtain ⟨hencode, hsize⟩ := decodeBase_encode b1 b2 b3
    rw [Machine.size_of_prefixFree (decodeBase_prefixFree hcb hdd hed hfd h)] at hsize
    cases k <;> exact ⟨List.cons_prefix_cons.mpr ⟨rfl, hencode⟩, by rw [← hsize, Nat.add_comm]; rfl⟩

theorem decode4_encode (b0 b1 b2 b3 : Byte) :
    (decode4 b0 b1 b2 b3).1.encode <+: [b0, b1, b2, b3] ∧
    (decode4 b0 b1 b2 b3).1.size = (decode4 b0 b1 b2 b3).2 := by
  unfold decode4
  split
  · next h =>
    obtain ⟨hencode, hsize⟩ := decodeCb_encode b1
    exact ⟨⟨[b2, b3], by rw [hencode, h]; rfl⟩, hsize⟩
  split
  · next h => exact h ▸ decodeEd_encode b1 b2 b3
  split
  · next h => exact h ▸ decodeIndexed_encode .ix b1 b2 b3
  split
  · next h => exact h ▸ decodeIndexed_encode .iy b1 b2 b3
  · obtain ⟨hencode, hsize⟩ := decodeBase_encode b0 b1 b2
    exact ⟨hencode.trans (List.prefix_append [b0, b1, b2] [b3]), hsize⟩

/-- What Laws/PerInstr.lean says of each instruction, for all of them. -/
theorem Instr.size_bounds {j : Instr} (hwf : j.wf = true) : 1 ≤ j.size ∧ j.size ≤ 4 ∧ j.size ≤ j.encode.length := by
  cases j
  case ixIgnored base => exact Laws.Encoding.ixIgnored base hwf
  case iyIgnored base => exact Laws.Encoding.iyIgnored base hwf
  all_goals exact Laws.Encoding.ofLengths rfl hwf

/-- Settles O2: every cell of the tables holds the instruction encoded in the bytes that select it, and as many bytes are
consumed as it has. -/
theorem encodeDecode : Obligations.EncodeDecode := by
  unfold Obligations.EncodeDecode
  intro b0 b1 b2 b3
  obtain ⟨hwf, hrow⟩ := decode4_decoded b0 b1 b2 b3
  obtain ⟨hencode, hsize⟩ := decode4_encode b0 b1 b2 b3
  obtain ⟨hlow, hhigh, -⟩ := Instr.size_bounds hwf
  rw [hsize] at hlow hhigh
  exact ⟨hwf, hrow, hsize.symm, hlow, hhigh, hencode⟩

end Sys2Proof
end

section
/-! SUPPORT. Decoding what was encoded (30_encoding.md R90 to R114): four bytes that begin with the encoding of an
instruction decode to it, and `decode` reads of a list what `decode4` reads of its first four bytes. -/

namespace Sys2Proof

/-! ### Encodings that stand in the tables -/

/-- A bit number is one of eight. -/
theorem bitVec3_cases {P : BitVec 3 → Prop} (h0 : P 0) (h1 : P 1) (h2 : P 2) (h3 : P 3) (h4 : P 4) (h5 : P 5) (h6 : P 6)
    (h7 : P 7) (b : BitVec 3) : P b := by
  have hb : b = 0 ∨ b = 1 ∨ b = 2 ∨ b = 3 ∨ b = 4 ∨ b = 5 ∨ b = 6 ∨ b = 7 := by
    revert b
    decide
  obtain rfl | rfl | rfl | rfl | rfl | rfl | rfl | rfl := hb
  all_goals assumption

theorem decodeEd_eq_nopEd_iff (op b1 b2 : Byte) : decodeEd op b1 b2 = .nopEd op ↔ decodeEd op 0 0 = .nopEd op := by
  unfold decodeEd
  dsimp only
  repeat' split
  all_goals simp

/-- Every second byte that the table of R100 does not name is a no-op (R105). -/
theorem decodeEd_undefined {op : Byte} (h : edDefined op = false) (b1 b2 : Byte) : decodeEd op b1 b2 = .nopEd op := by
  rw [decodeEd_eq_nopEd_iff]
  revert op
  decide

/-- Each value of the operand fields selects its own cell; operand bytes are handed on, a word by its two halves. -/
theorem decode4_of_table_encode {j : Instr} (hwf : j.wf = true) (htab : j.inTables = true) {b0 b1 b2 b3 : Byte}
    (h : j.encode <+: [b0, b1, b2, b3]) : (decode4 b0 b1 b2 b3).1 = j := by
  obtain ⟨rest, h⟩ := h
  cases j
  case cbPrefix | ddPrefix | edPrefix | fdPrefix | ixCbPrefix | iyCbPrefix | ixIgnored | iyIgnored => cases htab
  all_goals cases h
  case nopEd => exact decodeEd_undefined ((Bool.not_eq_true' _).mp hwf) b2 b3
  case ldDdNn q nn | ldMemNnDd q nn | ldDdMemNn q nn | jpCcNn q nn | callCcNn q nn =>
    conv_rhs => rw [← Machine.mkWord_hi_lo nn]
    cases q <;> rfl
  case ldMemNnHl nn | ldMemNnA nn | ldHlMemNn nn | ldAMemNn nn | jpNn nn | callNn nn | ldIxNn nn | ldMemNnIx nn
    | ldIxMemNn nn | ldIyNn nn | ldMemNnIy nn | ldIyMemNn nn =>
    conv_rhs => rw [← Machine.mkWord_hi_lo nn]
    rfl
  case jrCc cc => cases cc <;> cases hwf <;> rfl
  case ldRIxh rr | ldRIxl rr | ldRIyh rr | ldRIyl rr => cases rr <;> cases hwf <;> rfl
  case retn b => cases b using bitVec3_cases <;> cases hwf <;> rfl
  case rstP b | bitMemHl b | resMemHl b | setMemHl b | neg b | resMemIx b | setMemIx b | resMemIy b | setMemIy b =>
    cases b using bitVec3_cases <;> rfl
  case bitMemIx b z | bitMemIy b z => cases b using bitVec3_cases <;> cases z using bitVec3_cases <;> rfl
  case bitR b rr | resR b rr | setR b rr => cases b using bitVec3_cases <;> cases rr <;> rfl
  case ldRResMemIx rr b | ldRSetMemIx rr b | ldRResMemIy rr b | ldRSetMemIy rr b =>
    cases b using bitVec3_cases <;> cases rr <;> rfl
  case ldRR rd rs => cases rd <;> cases rs <;> rfl
  case im0 b5 b3 => cases b5 <;> cases b3 <;> rfl
  case incR q | decR q | ldRN q | ldMemHlR q | ldRMemHl q | addAR q | adcAR q | subR q | sbcAR q | andR q | xorR q | orR q
    | cpR q | rlcR q | rrcR q | rlR q | rrR q | slaR q | sraR q | sllR q | srlR q | inRC q | outCR q | ldMemIxR q
    | ldMemIyR q | ldRMemIx q | ldRMemIy q | ldRRlcMemIx q | ldRRrcMemIx q | ldRRlMemIx q | ldRRrMemIx q | ldRSlaMemIx q
    | ldRSraMemIx q | ldRSllMemIx q | ldRSrlMemIx q | ldRRlcMemIy q | ldRRrcMemIy q | ldRRlMemIy q | ldRRrMemIy q
    | ldRSlaMemIy q | ldRSraMemIy q | ldRSllMemIy q | ldRSrlMemIy q | addHlSs q | incSs q | decSs q | sbcHlSs q
    | adcHlSs q | popQq q | pushQq q | retCc q | im1 q | im2 q | addIxPp q | addIyPp q | ldIxhR q | ldIxlR q | ldIyhR q
    | ldIylR q => cases q <;> rfl
  all_goals rfl

/-! ### Encodings behind an ignored prefix (R389) -/

/-- A byte that leads from the base table into another (R99 to R101). -/
def isPrefixByte (b : Byte) : Bool := b == 0xCB || b == 0xDD || b == 0xED || b == 0xFD

theorem opcode_of_prefixFree {j : Instr} (hfree : j.prefixFree = true) {op : Byte} {operands : List Byte}
    (h : j.encode <+: op :: operands) : isPrefixByte op = false := by
  obtain ⟨rest, h⟩ := h
  cases j
  case ldRR rd rs => cases h; cases rd <;> cases rs <;> rfl
  case rstP t => cases h; cases t using bitVec3_cases <;> rfl
  case ldDdNn q _ | incSs q | decSs q | incR q | decR q | ldRN q _ | addAR q | adcAR q | subR q | sbcAR q | andR q | xorR q
    | orR q | cpR q | popQq q | pushQq q | jrCc q _ | retCc q | jpCcNn q _ | callCcNn q _ => cases h; cases q <;> rfl
  all_goals cases hfree
  all_goals cases h; rfl

/-- An opcode that an index prefix does not affect stands in a cell `·` of the grid R114. -/
theorem decodeXy_eq_none {op b1 b2 : Byte} (h : (decodeBase op b1 b2).prefixFree = true) (k : Idx) :
    decodeXy k op b1 b2 = none := by
  rw [(decodeBase_operands op b1 b2).2] at h
  rw [← Option.isNone_iff_eq_none, (decodeXy_operands k op b1 b2).2]
  revert op
  decide

theorem decode4_of_opcode {b0 : Byte} (h : isPrefixByte b0 = false) (b1 b2 b3 : Byte) :
    decode4 b0 b1 b2 b3 = (decodeBase b0 b1 b2, baseLength b0) := by
  simp_all [isPrefixByte, decode4]

theorem decodeIndexed_of_opcode {k : Idx} {b1 b2 b3 : Byte} (h : isPrefixByte b1 = false)
    (hxy : decodeXy k b1 b2 b3 = none) :
    decodeIndexed k b1 b2 b3 =
      (k.pick (.ixIgnored (decodeBase b1 b2 b3)) (.iyIgnored (decodeBase b1 b2 b3)), 1 + baseLength b1) := by
  simp_all [isPrefixByte, decodeIndexed]

theorem decodeIndexed_of_encode {base : Instr} (hfree : base.prefixFree = true) (hwf : base.wf = true) {b1 b2 b3 : Byte}
    (h : base.encode <+: [b1, b2, b3]) (k : Idx) :
    (decodeIndexed k b1 b2 b3).1 = k.pick (.ixIgnored base) (.iyIgnored base) := by
  have hopcode : isPrefixByte b1 = false := opcode_of_prefixFree hfree h
  have hbase : decodeBase b1 b2 b3 = base := by
    have h4 : base.encode <+: [b1, b2, b3, 0] := h.trans (List.prefix_append [b1, b2, b3] [0])
    simpa only [decode4_of_opcode hopcode] using decode4_of_table_encode hwf (Instr.inTables_of_prefixFree hfree) h4
  subst hbase
  rw [decodeIndexed_of_opcode hopcode (decodeXy_eq_none hfree k)]

/-- The converse of `decode4_encode`. -/
theorem decode4_of_encode {j : Instr} (hwf : j.wf = true) (hrow : j.isPrefixRow = false) {b0 b1 b2 b3 : Byte}
    (h : j.encode <+: [b0, b1, b2, b3]) : decode4 b0 b1 b2 b3 = (j, j.size) := by
  have hj : (decode4 b0 b1 b2 b3).1 = j := by
    cases j
    case cbPrefix | ddPrefix | edPrefix | fdPrefix | ixCbPrefix | iyCbPrefix => cases hrow
    case ixIgnored base =>
      obtain ⟨hfree, hbase⟩ := Bool.and_eq_true_iff.mp hwf
      obtain ⟨rfl, hrest⟩ := List.cons_prefix_cons.mp h
      exact decodeIndexed_of_encode hfree hbase hrest .ix
    case iyIgnored base =>
      obtain ⟨hfree, hbase⟩ := Bool.and_eq_true_iff.mp hwf
      obtain ⟨rfl, hrest⟩ := List.cons_prefix_cons.mp h
      exact decodeIndexed_of_encode hfree hbase hrest .iy
    all_goals exact decode4_of_table_encode hwf rfl h
  exact Prod.ext hj (by rw [← (decode4_encode b0 b1 b2 b3).2, hj])

/-! ### Lists of bytes -/

/-- What `decode4` reads at the front of a list. -/
def decodeFront (bs : List Byte) : Instr × Nat := decode4 (bs.getD 0 0) (bs.getD 1 0) (bs.getD 2 0) (bs.getD 3 0)

theorem frontBytes_eq_take (bs : List Byte) :
    [bs.getD 0 0, bs.getD 1 0, bs.getD 2 0, bs.getD 3 0] = (bs ++ [0, 0, 0, 0]).take 4 := by
  obtain _ | ⟨b0, _ | ⟨b1, _ | ⟨b2, _ | ⟨b3, rest⟩⟩⟩⟩ := bs <;> rfl

/-- The lists that `decode` reads as a prefix row of the opcode table (log 11). -/
def prefixRowBytes : List (List Byte) := [[0xCB], [0xDD], [0xED], [0xFD], [0xDD, 0xCB], [0xFD, 0xCB]]

/-- Each of them ends before the instruction it begins. -/
theorem prefixRowBytes_truncated : ∀ bs ∈ prefixRowBytes, bs.length < (decodeFront bs).2 := by decide

theorem decode_eq_decodeFront {bs : List Byte} (h : (decodeFront bs).2 ≤ bs.length) :
    decode bs = .ok (decodeFront bs) := by
  have hrow : bs ∉ prefixRowBytes := fun hmem => Nat.not_le_of_lt (prefixRowBytes_truncated bs hmem) h
  obtain _ | ⟨b0, rest⟩ := bs
  · exact absurd h (by decide)
  simp only [prefixRowBytes, List.mem_cons, List.cons.injEq, List.not_mem_nil, or_false, not_or] at hrow
  obtain ⟨hcb, hdd, hed, hfd, hddcb, hfdcb⟩ := hrow
  unfold decode
  simp only [Bool.and_eq_true, List.isEmpty_iff, decide_eq_true_eq]
  rw [if_neg (hcb ∘ And.symm), if_neg (hdd ∘ And.symm), if_neg (hed ∘ And.symm), if_neg (hfd ∘ And.symm), if_neg hddcb,
    if_neg hfdcb]
  exact if_pos h

/-- A redundant prefix is listed with the byte that makes it redundant; of the others the encoding is all that is
consumed (R387). -/
theorem Instr.encode_length_le {j : Instr} (hwf : j.wf = true) : j.encode.length ≤ 4 := by
  obtain ⟨-, hsize, -⟩ := Instr.size_bounds hwf
  unfold size at hsize
  split at hsize
  case h_7 => exact hsize
  all_goals decide

theorem decodeFront_encode {j : Instr} (hwf : j.wf = true) (hrow : j.isPrefixRow = false) (rest : List Byte) :
    decodeFront (j.encode ++ rest) = (j, j.size) := by
  refine decode4_of_encode hwf hrow ?_
  rw [frontBytes_eq_take, List.prefix_take_iff, List.append_assoc]
  exact ⟨List.prefix_append _ _, Instr.encode_length_le hwf⟩

/-- Settles O1: the first four bytes begin with the encoding, and they hold all that is consumed. -/
theorem decodeEncode : Obligations.DecodeEncode := by
  unfold Obligations.DecodeEncode
  intro j rest hwf hrow
  have hfront := decodeFront_encode hwf hrow rest
  obtain ⟨-, -, hsize⟩ := Instr.size_bounds hwf
  rw [← hfront]
  apply decode_eq_decodeFront
  rw [hfront, List.length_append]
  exact Nat.le_add_right_of_le hsize

end Sys2Proof
end

section
/-! SUPPORT. Every opcode fetch refreshes `R` once (10_state.md R27, 30_encoding.md R107), and a prefix row of the opcode
table runs what the bytes at `PC` decode to (R99 to R104, log 11). -/

namespace Sys2Proof.Machine

/-! ### `R` after an instruction -/

@[simp] theorem r_blockLoad (step : Word) (s : State) : (blockLoad step s).r = bumpR (bumpR s.r) := by simp [blockLoad]

@[simp] theorem r_blockCompare (step : Word) (s : State) : (blockCompare step s).r = bumpR (bumpR s.r) := by
  simp [blockCompare]

@[simp] theorem r_blockIoRepeat (pc0 : Word) (t : State) : (blockIoRepeat pc0 t).r = t.r := by
  unfold blockIoRepeat
  split <;> simp

theorem runTable_r {j : Instr} (h : j.inTables = true) (hr : j ≠ .ldRefreshA) (s : State) :
    ∃ t, runTable j s = .next t ∧ t.r = refreshed (opcodeFetches j) s.r := by
  cases j
  case cbPrefix | ddPrefix | edPrefix | fdPrefix | ixCbPrefix | iyCbPrefix | ixIgnored | iyIgnored => cases h
  case ldRefreshA => exact absurd rfl hr
  all_goals refine ⟨_, rfl, ?_⟩
  all_goals simp [refreshed, opcodeFetches, apply_ite State.r, aluReg, aluImm, aluMemHl, aluMemIdx, aluHalf, aluWith,
    incReg, decReg, incHalf, decHalf, accFlags, negate, modifyIdxCbCopy, modifyIdxCb, modifyMem, rotateAcc, rotateReg,
    rotateDigit, bitReg, bitMemHl, bitMemIdx, addHl, adcHl, sbcHl, addXy, exchangeTop, portOutImm, portInImm,
    portInFlags, portInReg, portOutBc, blockIn, blockOut, loadWordCycles, storeWord, storeA, loadA, loadSpecial,
    loadIdxReg, storeIdxReg, storeIdxImm, State.jumpRelative, State.returnFromStack, callTo, countAndJump,
    jumpRelativeIf, jumpIf, callIf, returnIf, blockLoadRepeat, blockCompareRepeat, State.push, State.popCycles,
    exchangeAf, exchangeSets, returnFromInterrupt, enterHalt]

theorem opcodeFetches_of_prefixFree {j : Instr} (h : j.prefixFree = true) : opcodeFetches j = 1 := by
  cases j
  case ldDdNn | incSs | decSs | incR | decR | ldRN | addAR | adcAR | subR | sbcAR | andR | xorR | orR | cpR | ldRR
    | popQq | pushQq => rfl
  all_goals cases h
  all_goals rfl

/-- The fetch of an ignored prefix is the first of two (R389). -/
theorem refreshed_coreOf {j : Instr} (hwf : j.wf = true) (s : State) :
    refreshed (opcodeFetches (coreOf j)) (coreStart j s).r = refreshed (opcodeFetches j) s.r := by
  cases j
  case ixIgnored base | iyIgnored base =>
    have hone : opcodeFetches base = 1 := opcodeFetches_of_prefixFree (Bool.and_eq_true_iff.mp hwf).1
    show refreshed (opcodeFetches base) (bumpR s.r) = refreshed 1 (bumpR s.r)
    rw [hone]
  all_goals rfl

/-- LD R,A stands behind no ignored prefix (R389). -/
theorem coreOf_ne_ldRefreshA {j : Instr} (hwf : j.wf = true) (hr : j ≠ .ldRefreshA) : coreOf j ≠ .ldRefreshA := by
  intro e
  obtain hself | hfree := coreOf_eq_or_prefixFree hwf
  · exact hr (hself.symm.trans e)
  · rw [e] at hfree
    cases hfree

/-- Settles O24: the instruction a term runs refreshes `R` once per fetch, and so does an ignored prefix before it. -/
theorem refreshTable : Obligations.RefreshTable := by
  unfold Obligations.RefreshTable
  intro j s hwf hrow hr
  obtain ⟨t, ht, htr⟩ := runTable_r (inTables_coreOf hwf hrow) (coreOf_ne_ldRefreshA hwf hr) (coreStart j s)
  exact ⟨t, (exec_eq_runTable hrow s).trans ht, htr.trans (refreshed_coreOf hwf s)⟩

/-! ### The prefix rows -/

theorem runTable_eq_exec {j : Instr} (h : j.isTableEntry = true) (s : State) : runTable j s = exec j s := by
  have htab := (Instr.isTableEntry_iff.mp h).2
  cases j
  case cbPrefix | ddPrefix | edPrefix | fdPrefix | ixCbPrefix | iyCbPrefix | ixIgnored | iyIgnored => cases htab
  all_goals rfl

theorem runIndexed_eq_exec (k : Idx) (s : State) :
    runIndexed k s = exec (decodeIndexed k (s.peek (s.pc + 1)) (s.peek (s.pc + 2)) (s.peek (s.pc + 3))).1 s := by
  have hrow := (decodeIndexed_decoded k (s.peek (s.pc + 1)) (s.peek (s.pc + 2)) (s.peek (s.pc + 3))).2
  unfold runIndexed
  generalize (decodeIndexed k (s.peek (s.pc + 1)) (s.peek (s.pc + 2)) (s.peek (s.pc + 3))).1 = j at hrow ⊢
  cases j
  case cbPrefix | ddPrefix | edPrefix | fdPrefix | ixCbPrefix | iyCbPrefix => cases hrow
  all_goals rfl

/-- What the bytes at `PC` decode to completes, so a row that runs the same does. -/
theorem runs_instrAt {row : Instr} {s : State} (h : exec row s = exec s.instrAt s) :
    Runs row s fun t => exec s.instrAt s = .next t := by
  obtain ⟨hwf, hrow⟩ := s.instrAt_decoded
  obtain ⟨t, ht⟩ := exec_next hwf hrow s
  exact ⟨t, h.trans ht, ht⟩

/-- Settles O60: each row enters the table that the decoder enters on the same bytes. -/
theorem prefixRows : Obligations.PrefixRows := by
  unfold Obligations.PrefixRows
  intro s
  refine ⟨fun h0 => runs_instrAt ?cb, fun h0 => runs_instrAt ?ed, fun h0 => runs_instrAt ?dd, fun h0 => runs_instrAt ?fd,
    fun h0 h1 => runs_instrAt ?ddcb, fun h0 h1 => runs_instrAt ?fdcb⟩
  case cb =>
    rw [State.instrAt, h0]
    exact runTable_eq_exec (decodeCb_isTableEntry _) s
  case ed =>
    rw [State.instrAt, h0]
    exact runTable_eq_exec (decodeEd_isTableEntry _ _ _) s
  case dd =>
    rw [State.instrAt, h0]
    exact runIndexed_eq_exec .ix s
  case fd =>
    rw [State.instrAt, h0]
    exact runIndexed_eq_exec .iy s
  case ddcb =>
    rw [State.instrAt, h0, h1]
    exact runTable_eq_exec (decodeIdxCb_isTableEntry .ix _ _) s
  case fdcb =>
    rw [State.instrAt, h0, h1]
    exact runTable_eq_exec (decodeIdxCb_isTableEntry .iy _ _) s

end Sys2Proof.Machine
end

section
/-! SUPPORT. 45_rotate_shift.md: the rotates and shifts bit by bit (R285 to R292). Each moves the bits one place up or one
place down and sets the bit that falls free. -/

namespace Sys2Proof.Machine

theorem getLsbD_bitAt (v : Bool) (k n : Nat) : (bitAt v k).getLsbD n = (v && (decide (k < 8) && decide (k = n))) := by
  cases v
  · exact BitVec.getLsbD_zero
  · exact BitVec.getLsbD_twoPow k n

theorem getLsbD_shiftUp (v : Byte) (low : Bool) {n : Nat} (hn : n < 8) :
    ((v <<< 1) ||| bitAt low 0).getLsbD n = if n = 0 then low else v.getLsbD (n - 1) := by
  rw [BitVec.getLsbD_or, BitVec.getLsbD_shiftLeft, getLsbD_bitAt]
  by_cases h : n = 0
  · simp [h]
  · simp [h, hn, Ne.symm h]

theorem getLsbD_shiftDown (v : Byte) (high : Bool) (n : Nat) :
    ((v >>> 1) ||| bitAt high 7).getLsbD n = if n = 7 then high else v.getLsbD (n + 1) := by
  rw [BitVec.getLsbD_or, BitVec.getLsbD_ushiftRight, getLsbD_bitAt, Nat.add_comm 1 n]
  by_cases h : n = 7
  · simp [h]
  · simp [h, Ne.symm h]

theorem and_bit7 (v : Byte) : v &&& 0x80 = bitAt (v.getLsbD 7) 7 := BitVec.and_twoPow v 7

/-- Settles O50: SLA and SRL set the free bit to 0, and SRA to bit 7, in their own way. -/
theorem rotateBits : Obligations.RotateBits := by
  unfold Obligations.RotateBits
  intro v c n hn up down
  have hsla : (RotOp.sla.run v c).1 = (v <<< 1) ||| bitAt false 0 := BitVec.or_zero.symm
  have hsra : (RotOp.sra.run v c).1 = (v >>> 1) ||| bitAt (v.getLsbD 7) 7 := congrArg ((v >>> 1) ||| ·) (and_bit7 v)
  have hsrl : (RotOp.srl.run v c).1 = (v >>> 1) ||| bitAt false 7 := BitVec.or_zero.symm
  rw [hsla, hsra, hsrl]
  exact ⟨getLsbD_shiftUp v _ hn, rfl, getLsbD_shiftDown v _ n, rfl, getLsbD_shiftUp v _ hn, rfl,
    getLsbD_shiftDown v _ n, rfl, getLsbD_shiftUp v _ hn, rfl, getLsbD_shiftDown v _ n, rfl,
    getLsbD_shiftUp v true hn, rfl, getLsbD_shiftDown v _ n, rfl⟩

end Sys2Proof.Machine
end

section
/-! SUPPORT. 40_load8.md: the 8-bit loads and stores (R130 to R149). Each is its fetches and at most one access or register
write, and what it leaves differs from the state its rule names in `PC`, `R` and the tacts alone. -/

namespace Sys2Proof.Machine

/-! ### What the fetches and accesses of an instruction advance -/

/-- `t` is `s` but for `R`, the tacts and `PC`, which stands at `p`. -/
def AdvancesTo (s t : State) (p : Word) : Prop := t = s.ran t ∧ t.pc = p

theorem advancesTo_of_eq {s t : State} {p : Word} {q : Byte} {n : Tact}
    (h : t = { s with pc := p, r := q, tacts := n }) : AdvancesTo s t p := by
  subst h
  exact ⟨rfl, rfl⟩

theorem advancesTo_opcode (s : State) : AdvancesTo s s.fetchOpcode (s.pc + 1) := ⟨rfl, rfl⟩

theorem advancesTo_opcodeByte (s : State) : AdvancesTo s s.fetchOpcode.fetchByte (s.pc + 2) := ⟨rfl, add_two s.pc⟩

theorem advancesTo_opcodeWord (s : State) : AdvancesTo s s.fetchOpcode.fetchByte.fetchByte (s.pc + 3) :=
  ⟨rfl, by simp⟩

theorem advancesTo_prefixed (s : State) : AdvancesTo s s.fetchPrefixed (s.pc + 2) := ⟨rfl, add_two s.pc⟩

theorem advancesTo_prefixedByte (s : State) : AdvancesTo s s.fetchPrefixed.fetchByte (s.pc + 3) := ⟨rfl, by simp⟩

section
variable {s t : State} {p : Word} (h : AdvancesTo s t p)
include h

theorem AdvancesTo.readCycle (x : Word) : AdvancesTo s (t.readCycle x) p := by
  obtain ⟨hframe, hpc⟩ := h
  refine ⟨?_, hpc⟩
  rw [hframe]
  rfl

theorem AdvancesTo.setR8 (rr : Reg8) (v : Byte) : AdvancesTo (s.setR8 rr v) (t.setR8 rr v) p := by
  obtain ⟨hframe, hpc⟩ := h
  refine ⟨?_, (State.setR8_pc t rr v).trans hpc⟩
  rw [hframe]
  cases rr <;> rfl

theorem AdvancesTo.setXy (k : Idx) (w : Word) : AdvancesTo (s.setXy k w) (t.setXy k w) p := by
  obtain ⟨hframe, hpc⟩ := h
  refine ⟨?_, (State.setXy_pc t k w).trans hpc⟩
  rw [hframe]
  cases k <;> rfl

/-- A load of `A` after the fetches (R138 to R140). -/
theorem AdvancesTo.loadA (x : Word) : AdvancesTo { s with a := s.peek x, mw := x + 1 } (loadA x t) p := by
  obtain ⟨hframe, rfl⟩ := h
  rw [hframe]
  exact advancesTo_of_eq (loadA_does x (s.ran t))

/-- A byte stored after the fetches (R134, R136). -/
theorem AdvancesTo.writeByte (hwf : s.mem.wf = true) (x : Word) (v : Byte) :
    let u := t.writeByte x v
    u = { s with mem := u.mem }.ran u ∧ u.pc = p ∧ StoresByte s u x v := by
  obtain ⟨hframe, rfl⟩ := h
  rw [hframe]
  exact ⟨rfl, rfl, storesByte_of hwf rfl rfl rfl⟩

/-- A store of `A` after the fetches (R141 to R143). -/
theorem AdvancesTo.storeA (hwf : s.mem.wf = true) (x : Word) :
    let u := storeA x t
    u = { s with mem := u.mem, mw := mkWord s.a (lo (x + 1)) }.ran u ∧ u.pc = p ∧ StoresByte s u x s.a := by
  obtain ⟨hframe, rfl⟩ := h
  rw [hframe]
  obtain ⟨hdoes, hstores⟩ := storeA_does x (s.ran t)
  exact ⟨(advancesTo_of_eq hdoes).1, rfl, hstores hwf⟩

end

/-! ### Loads of a register (R130 to R133) -/

theorem loadIdxReg_advances (s : State) (rr : Reg8) (d : Byte) (k : Idx) :
    AdvancesTo ({ s with mw := s.xy k + sext16 d }.setR8 rr (s.peek (s.xy k + sext16 d))) (loadIdxReg k rr d s)
      (s.pc + 3) := by
  cases rr <;> exact advancesTo_of_eq (loadIdxReg_does k _ d s)

/-- Settles O32: the fetches and the read only advance, then the register is written. -/
theorem loadRegister : Obligations.LoadRegister := by
  unfold Obligations.LoadRegister
  intro s rd rs n d k
  refine ⟨⟨_, rfl, (advancesTo_opcode s).setR8 rd (s.r8 rs)⟩, ⟨_, rfl, (advancesTo_opcodeByte s).setR8 rd n⟩,
    ⟨_, rfl, ((advancesTo_opcode s).readCycle s.hl).setR8 rd (s.peek s.hl)⟩, ⟨_, ?indexed, loadIdxReg_advances s rd d k⟩⟩
  case indexed => cases k <;> rfl

/-! ### Loads of an index half (R148, R149) -/

/-- Settles O33: a half is written by writing `XY` with the other half kept (R23). -/
theorem loadIndexHalf : Obligations.LoadIndexHalf := by
  unfold Obligations.LoadIndexHalf
  intro s rx rr n k
  refine ⟨⟨_, ?highFrom, (advancesTo_prefixed s).setXy k _⟩, ⟨_, ?lowFrom, (advancesTo_prefixed s).setXy k _⟩,
    ⟨_, ?fromHigh, (advancesTo_prefixed s).setR8 rr _⟩, ⟨_, ?fromLow, (advancesTo_prefixed s).setR8 rr _⟩,
    ⟨_, ?highImm, (advancesTo_prefixedByte s).setXy k _⟩, ⟨_, ?lowImm, (advancesTo_prefixedByte s).setXy k _⟩⟩
  all_goals cases k <;> rfl

/-! ### Loads of `A`, and between `A` and `I` or `R` (R138 to R140, R144 to R147) -/

theorem ldIA_runs (s : State) : Runs .ldIA s fun t => t = { s with i := s.a }.ran t ∧ t.pc = s.pc + 2 :=
  ⟨_, rfl, by simp [State.ran, State.ext_iff], by simp⟩

theorem ldRefreshA_runs (s : State) : Runs .ldRefreshA s fun t => t = s.ran t ∧ t.r = s.a ∧ t.pc = s.pc + 2 :=
  ⟨_, rfl, by simp [State.ran, State.ext_iff], rfl, by simp⟩

/-- `LD A,I` and `LD A,R`: `A` takes `v`, and the flags are `SZXY(v)` with PV from `IFF2` (R144, R145). -/
theorem loadSpecial_frame (v : Byte) (s : State) :
    let t := loadSpecial v s
    t = { s with a := v, f := t.f }.ran t ∧ t.r = bumpR (bumpR s.r) ∧ t.pc = s.pc + 2 ∧
      HasFlags t.f (v.getLsbD 7) (v = 0) (v.getLsbD 5) False (v.getLsbD 3) s.iff2 False (flagC s.f) := by
  obtain ⟨hframe, hpc⟩ : AdvancesTo { s with a := v, f := specialFlags s.f v s.iff2 } (loadSpecial v s) (s.pc + 2) :=
    advancesTo_of_eq (loadSpecial_does v s)
  have hflags := hasFlags_szxy (v := v) (h := false) (pv := s.iff2) (n := false) (c := flagC s.f)
    ⟨Bool.false_eq_true.to_iff, .rfl, Bool.false_eq_true.to_iff, .rfl⟩
  exact ⟨hframe, rfl, hpc, hflags⟩

/-- Settles O34: LD A,R reads `R` after its own two fetches. -/
theorem loadAccumulator : Obligations.LoadAccumulator := by
  unfold Obligations.LoadAccumulator
  intro s nn
  obtain ⟨hframe, -, hpc, hflags⟩ := loadSpecial_frame s.i s
  exact ⟨⟨_, rfl, (advancesTo_opcode s).loadA s.bc⟩, ⟨_, rfl, (advancesTo_opcode s).loadA s.de⟩,
    ⟨_, rfl, (advancesTo_opcodeWord s).loadA nn⟩, ldIA_runs s, ldRefreshA_runs s, ⟨_, rfl, hframe, hpc, hflags⟩,
    ⟨_, rfl, loadSpecial_frame (bumpR (bumpR s.r)) s⟩⟩

/-! ### Stores (R134 to R137, R141 to R143) -/

theorem lo_add_one (w : Word) : lo (w + 1) = lo w + 1 := BitVec.setWidth_add w 1 (by decide)

theorem storeIdxReg_frame {s : State} (hwf : s.mem.wf = true) (k : Idx) (d : Byte) (rr : Reg8) :
    let t := storeIdxReg k d rr s
    t = { s with mem := t.mem, mw := s.xy k + sext16 d }.ran t ∧ t.pc = s.pc + 3 ∧
      StoresByte s t (s.xy k + sext16 d) (s.r8 rr) := by
  obtain ⟨hdoes, hstores⟩ := storeIdxReg_does k d rr s
  obtain ⟨hframe, hpc⟩ : AdvancesTo { s with mem := (storeIdxReg k d rr s).mem, mw := s.idxAddr k d } (storeIdxReg k d rr s)
      (s.pc + 3) := advancesTo_of_eq hdoes
  exact ⟨hframe, hpc, hstores hwf⟩

theorem storeIdxImm_frame {s : State} (hwf : s.mem.wf = true) (k : Idx) (d n : Byte) :
    let t := storeIdxImm k d n s
    t = { s with mem := t.mem, mw := s.xy k + sext16 d }.ran t ∧ t.pc = s.pc + 4 ∧
      StoresByte s t (s.xy k + sext16 d) n := by
  obtain ⟨hdoes, hstores⟩ := storeIdxImm_does k d n s
  obtain ⟨hframe, hpc⟩ : AdvancesTo { s with mem := (storeIdxImm k d n s).mem, mw := s.idxAddr k d } (storeIdxImm k d n s)
      (s.pc + 4) := advancesTo_of_eq hdoes
  exact ⟨hframe, hpc, hstores hwf⟩

/-- Settles O35: one byte is stored after the fetches; the low byte of `BC + 1` is `C + 1`. -/
theorem storeByte : Obligations.StoreByte := by
  unfold Obligations.StoreByte
  intro s rr n d nn k hwf
  have hbc : lo (s.bc + 1) = s.c + 1 := by rw [lo_add_one, State.bc, lo_mkWord]
  have hde : lo (s.de + 1) = s.e + 1 := by rw [lo_add_one, State.de, lo_mkWord]
  rw [← hbc, ← hde, ← lo_add_one nn]
  refine ⟨⟨_, rfl, (advancesTo_opcode s).writeByte hwf s.hl (s.r8 rr)⟩,
    ⟨_, rfl, (advancesTo_opcodeByte s).writeByte hwf s.hl n⟩, ⟨_, ?indexedReg, storeIdxReg_frame hwf k d rr⟩,
    ⟨_, ?indexedImm, storeIdxImm_frame hwf k d n⟩, ⟨_, rfl, (advancesTo_opcode s).storeA hwf s.bc⟩,
    ⟨_, rfl, (advancesTo_opcode s).storeA hwf s.de⟩, ⟨_, rfl, (advancesTo_opcodeWord s).storeA hwf nn⟩⟩
  all_goals cases k <;> rfl

end Sys2Proof.Machine
end

section
/-! SUPPORT. Words of 30_encoding.md written out, one of each family. -/

namespace Sys2Proof

/-- Settles O3: each list but the last is the encoding of its instruction, which `decodeEncode` reads back; the last
ends inside an instruction and is a row of its own (log 11). -/
theorem decodeWords : Obligations.DecodeWords := by
  unfold Obligations.DecodeWords
  have hword (j : Instr) (hwf : j.wf = true) (hrow : j.isPrefixRow = false) : decode (j.encode ++ []) = .ok (j, j.size) :=
    decodeEncode j [] hwf hrow
  exact ⟨hword (.ldRR .b .c) rfl rfl, hword (.ldDdNn .sp 0xA926) rfl rfl, hword .ldir rfl rfl, hword (.subMemIx 3) rfl rfl,
    hword (.adcHlSs .de) rfl rfl, hword (.rrcMemIy 0xFE) rfl rfl, hword (.bitMemIx 6 4 1) rfl rfl,
    hword (.callCcNn .m 0x1234) rfl rfl, hword (.inRC .a) rfl rfl, hword (.im0 true true) rfl rfl,
    hword .redundantIxFd rfl rfl, hword (.ixIgnored .nop) rfl rfl, rfl⟩

end Sys2Proof
end

section
/-! SUPPORT. 41_load16.md: the 16-bit loads and stores, PUSH and POP (R160 to R173). Each is its fetches, at most the two
accesses of one word, and at most one write of a pair; what it leaves differs from the state its rule names in `PC`, `R`
and the tacts alone. -/

namespace Sys2Proof.Machine

/-! ### What the cycles of a word leave after the fetches -/

section
variable {s t : State} {p : Word} (h : AdvancesTo s t p)
include h

theorem AdvancesTo.fetchByte : AdvancesTo s t.fetchByte (p + 1) := by
  obtain ⟨hframe, rfl⟩ := h
  rw [hframe]
  exact ⟨rfl, rfl⟩

theorem AdvancesTo.tick (n : Nat) : AdvancesTo s (t.tick n) p := by
  obtain ⟨hframe, rfl⟩ := h
  rw [hframe]
  exact ⟨rfl, rfl⟩

theorem AdvancesTo.setSp (w : Word) : AdvancesTo { s with sp := w } (t.setSp w) p := by
  obtain ⟨hframe, rfl⟩ := h
  rw [hframe]
  exact ⟨rfl, rfl⟩

theorem AdvancesTo.setPair (dd : Pair) (w : Word) : AdvancesTo (s.setPair dd w) (t.setPair dd w) p := by
  obtain ⟨hframe, hpc⟩ := h
  refine ⟨?_, (State.setPair_pc t dd w).trans hpc⟩
  rw [hframe]
  cases dd <;> rfl

theorem AdvancesTo.setPairQ (qq : PairQ) (w : Word) : AdvancesTo (s.setPairQ qq w) (t.setPairQ qq w) p := by
  obtain ⟨hframe, hpc⟩ := h
  refine ⟨?_, (State.setPairQ_pc t qq w).trans hpc⟩
  rw [hframe]
  cases qq <;> rfl

/-- The reads of a word load after the fetches (R162 to R164). -/
theorem AdvancesTo.loadWordCycles (nn : Word) : AdvancesTo { s with mw := nn + 1 } (loadWordCycles nn t) p := by
  obtain ⟨hframe, rfl⟩ := h
  rw [hframe]
  exact advancesTo_of_eq (loadWordCycles_does nn (s.ran t))

/-- The reads of a pop after the fetches (R172, R173). -/
theorem AdvancesTo.popCycles : AdvancesTo { s with sp := s.sp + 2 } t.popCycles p := by
  obtain ⟨hframe, rfl⟩ := h
  rw [hframe]
  exact advancesTo_of_eq (s.ran t).popCycles_does

/-- A word stored after the fetches (R165 to R167). -/
theorem AdvancesTo.storeWord (hwf : s.mem.wf = true) (nn w : Word) :
    let u := storeWord nn w t
    u = { s with mem := u.mem, mw := nn + 1 }.ran u ∧ u.pc = p ∧ StoresWord s u nn w := by
  obtain ⟨hframe, rfl⟩ := h
  rw [hframe]
  obtain ⟨hdoes, hstores⟩ := storeWord_does nn w (s.ran t)
  exact ⟨(advancesTo_of_eq hdoes).1, rfl, hstores hwf⟩

/-- A push after the fetches (R170, R171). -/
theorem AdvancesTo.push (hwf : s.mem.wf = true) (w : Word) :
    let u := t.push w
    u = { s with mem := u.mem, sp := s.sp - 2 }.ran u ∧ u.pc = p ∧ StoresWord s u (s.sp - 2) w := by
  obtain ⟨hframe, rfl⟩ := h
  rw [hframe]
  obtain ⟨hdoes, hstores⟩ := (s.ran t).push_does w
  exact ⟨(advancesTo_of_eq hdoes).1, rfl, hstores hwf⟩

end

theorem advancesTo_prefixedWord (s : State) : AdvancesTo s s.fetchPrefixed.fetchByte.fetchByte (s.pc + 4) :=
  add_four s.pc ▸ (advancesTo_prefixedByte s).fetchByte

/-! ### Loads of a pair, an index register or SP (R160 to R164, R168, R169) -/

/-- LD HL,(nn): writing the pair writes `H` with the byte at `nn + 1` and `L` with the byte at `nn` (R21, R62). -/
theorem ldHlMemNn_runs (s : State) (nn : Word) : Runs (.ldHlMemNn nn) s fun t =>
    t = { s with l := s.peek nn, h := s.peek (nn + 1), mw := nn + 1 }.ran t ∧ t.pc = s.pc + 3 := by
  have hpair : ({ s with mw := nn + 1 } : State).setPair .hl (s.peekWord nn) =
      { s with l := s.peek nn, h := s.peek (nn + 1), mw := nn + 1 } := by
    simp [State.setPair, State.setHl, State.peekWord]
  rw [← hpair]
  exact ⟨_, rfl, ((advancesTo_opcodeWord s).loadWordCycles nn).setPair .hl (s.peekWord nn)⟩

/-- Settles O36: after the fetches, and the reads of the memory forms, one pair is written. -/
theorem loadPair : Obligations.LoadPair := by
  unfold Obligations.LoadPair
  intro s dd nn k
  refine ⟨⟨_, rfl, (advancesTo_opcodeWord s).setPair dd nn⟩, ⟨_, ?indexImm, (advancesTo_prefixedWord s).setXy k nn⟩,
    ldHlMemNn_runs s nn, ⟨_, rfl, ((advancesTo_prefixedWord s).loadWordCycles nn).setPair dd (s.peekWord nn)⟩,
    ⟨_, ?indexMem, ((advancesTo_prefixedWord s).loadWordCycles nn).setXy k (s.peekWord nn)⟩,
    ⟨_, rfl, ((advancesTo_opcode s).tick 2).setSp s.hl⟩, ⟨_, ?spIndex, ((advancesTo_prefixed s).tick 2).setSp (s.xy k)⟩⟩
  all_goals cases k <;> rfl

/-! ### Stores of a word (R165 to R167) -/

/-- Settles O37: after the fetches one word is stored. -/
theorem storePair : Obligations.StorePair := by
  unfold Obligations.StorePair
  intro s dd nn k hwf
  refine ⟨⟨_, rfl, (advancesTo_opcodeWord s).storeWord hwf nn s.hl⟩,
    ⟨_, rfl, (advancesTo_prefixedWord s).storeWord hwf nn (s.pair dd)⟩,
    ⟨_, ?index, (advancesTo_prefixedWord s).storeWord hwf nn (s.xy k)⟩⟩
  case index => cases k <;> rfl

/-! ### The stack (R170 to R173) -/

/-- Settles O38: after the fetches a word is pushed, or popped and written to its pair. -/
theorem pushPop : Obligations.PushPop := by
  unfold Obligations.PushPop
  intro s qq k
  refine ⟨fun hwf => ⟨⟨_, rfl, ((advancesTo_opcode s).tick 1).push hwf (s.pairQ qq)⟩,
      ⟨_, ?pushIndex, ((advancesTo_prefixed s).tick 1).push hwf (s.xy k)⟩⟩,
    ⟨_, rfl, (advancesTo_opcode s).popCycles.setPairQ qq s.topWord⟩,
    ⟨_, ?popIndex, (advancesTo_prefixed s).popCycles.setXy k s.topWord⟩⟩
  all_goals cases k <;> rfl

end Sys2Proof.Machine
end

section
/-! SUPPORT. 42_exchange_block.md: exchanges, block transfer and block search (R190 to R203). An exchange is its fetches and
register writes, with the stack's two bytes in `EX (SP),rr`; a block instruction is one transfer or one search, and its
repeating form is the same one with `PC` put back and `MW` set while it goes on (R195). -/

namespace Sys2Proof.Machine

/-! ### Exchanges (R190 to R194) -/

theorem exDeHl_runs (s : State) :
    Runs .exDeHl s fun t => t = { s with d := s.h, e := s.l, h := s.d, l := s.e }.ran t ∧ t.pc = s.pc + 1 := by
  have hswap : (s.setPair .de s.hl).setPair .hl s.de = { s with d := s.h, e := s.l, h := s.d, l := s.e } := by
    simp [State.setPair, State.setDe, State.setHl, State.hl, State.de]
  rw [← hswap]
  exact ⟨_, rfl, ((advancesTo_opcode s).setPair .de s.hl).setPair .hl s.de⟩

/-- The exchange of the word on top of the stack, after the fetches (R193, R194). -/
theorem AdvancesTo.exchangeTop {s t : State} {p : Word} (h : AdvancesTo s t p) (hwf : s.mem.wf = true) (v : Word) :
    let u := exchangeTop v t
    AdvancesTo { s with mw := s.topWord, mem := u.mem } u p ∧ StoresWord s u s.sp v := by
  obtain ⟨hframe, rfl⟩ := h
  rw [hframe]
  obtain ⟨hdoes, hstores⟩ := exchangeTop_does v (s.ran t)
  exact ⟨advancesTo_of_eq hdoes, hstores hwf⟩

theorem exSpHl_runs {s : State} (hwf : s.mem.wf = true) : Runs .exSpHl s fun t =>
    t = { s with
      h := s.peek (s.sp + 1), l := s.peek s.sp, mw := mkWord (s.peek (s.sp + 1)) (s.peek s.sp), mem := t.mem }.ran t ∧
    t.pc = s.pc + 1 ∧ StoresWord s t s.sp s.hl := by
  refine ⟨_, rfl, ?_⟩
  obtain ⟨htop, hstores⟩ := (advancesTo_opcode s).exchangeTop hwf s.hl
  generalize exchangeTop s.hl s.fetchOpcode = u at htop hstores ⊢
  obtain ⟨hframe, hpc⟩ := htop.setPair .hl s.topWord
  refine ⟨hframe.trans ?_, hpc, hstores⟩
  simp [State.setPair, State.setHl, State.topWord, State.peekWord]

theorem exSpXy_runs {s : State} (hwf : s.mem.wf = true) (k : Idx) : Runs (k.pick .exSpIx .exSpIy) s fun t =>
    t = ({ s with mw := mkWord (s.peek (s.sp + 1)) (s.peek s.sp), mem := t.mem }.setXy k
      (mkWord (s.peek (s.sp + 1)) (s.peek s.sp))).ran t ∧
    t.pc = s.pc + 2 ∧ StoresWord s t s.sp (s.xy k) := by
  refine ⟨(exchangeTop (s.xy k) s.fetchPrefixed).setXy k s.topWord, by cases k <;> rfl, ?_⟩
  obtain ⟨htop, hstores⟩ := (advancesTo_prefixed s).exchangeTop hwf (s.xy k)
  generalize exchangeTop (s.xy k) s.fetchPrefixed = u at htop hstores ⊢
  obtain ⟨hframe, hpc⟩ := htop.setXy k s.topWord
  cases k <;> exact ⟨hframe, hpc, hstores⟩

/-- Settles O39: each exchange runs as above; those with the shadows are the model's own `exchangeAf` and `exchangeSets`. -/
theorem exchanges : Obligations.Exchanges := by
  unfold Obligations.Exchanges
  intro s k
  exact ⟨exDeHl_runs s, ⟨_, rfl, advancesTo_of_eq (exchangeAf_does s)⟩, ⟨_, rfl, advancesTo_of_eq (exchangeSets_does s)⟩,
    fun hwf => ⟨exSpHl_runs hwf, exSpXy_runs hwf k⟩⟩

/-! ### The count and the repetition (R195) -/

/-- The new `BC` is not 0 exactly when the old one was not 1. -/
theorem count_ne_zero (bc : Word) : (bc - 1 != 0) = true ↔ bc ≠ 1 := by
  rw [bne_iff_ne, Ne, sub_eq_zero]

/-- What a repeating form does to the state `t` of one transfer or search while it goes on: 5 more tacts, `PC` back to
`pc0`, the address of the ED byte, and `MW` behind that byte. -/
def State.repeatAt (t : State) (pc0 : Word) : State := { t with pc := pc0, mw := pc0 + 1, tacts := t.tacts + 5 }

theorem AdvancesTo.repeatAt {s t : State} {p : Word} (h : AdvancesTo s t p) (pc0 : Word) :
    AdvancesTo { s with mw := pc0 + 1 } (t.repeatAt pc0) pc0 := by
  obtain ⟨hframe, -⟩ := h
  rw [hframe]
  exact ⟨rfl, rfl⟩

@[simp] theorem repeatAt_f (t : State) (pc0 : Word) : (t.repeatAt pc0).f = t.f := rfl

theorem StoresByte.repeatAt {s t : State} {x : Word} {v : Byte} (h : StoresByte s t x v) (pc0 : Word) :
    StoresByte s (t.repeatAt pc0) x v := h

/-! ### Block transfer (R196 to R199) -/

/-- `s` after one transfer, with `F` and memory as in `t`. -/
def transferred (step : Word) (s t : State) : State :=
  { (((s.setHl (s.hl + step)).setDe (s.de + step)).setBc (s.bc - 1)) with f := t.f, mem := t.mem }

theorem transferred_repeatAt (step : Word) (s t : State) (pc0 : Word) :
    transferred step s (t.repeatAt pc0) = transferred step s t := rfl

theorem blockLoad_advances (step : Word) (s : State) :
    AdvancesTo (transferred step s (blockLoad step s)) (blockLoad step s) (s.pc + 2) := by
  obtain ⟨hdoes, -⟩ := blockLoad_does step s
  generalize blockLoad step s = t at hdoes ⊢
  have hf : t.f = transferFlags s.f s.a (s.peek s.hl) (s.bc - 1) := congrArg State.f hdoes
  unfold transferred
  rw [hf]
  exact advancesTo_of_eq hdoes

theorem blockLoad_stores (step : Word) {s : State} (hwf : s.mem.wf = true) :
    StoresByte s (blockLoad step s) s.de (s.peek s.hl) :=
  (blockLoad_does step s).2 hwf

theorem transferFlags_flags (f a v : Byte) (bc : Word) :
    HasFlags (transferFlags f a v (bc - 1)) (flagS f) (flagZ f) ((v + a).getLsbD 1) False ((v + a).getLsbD 3) (bc ≠ 1) False
      (flagC f) :=
  hasFlags_mkF ⟨.rfl, .rfl, .rfl, by simp, .rfl, count_ne_zero bc, by simp, .rfl⟩

/-- A repeating transfer ends when `BC` was 1. -/
theorem blockLoadRepeat_eq (step : Word) (s : State) :
    blockLoadRepeat step s = if s.bc = 1 then blockLoad step s else (blockLoad step s).repeatAt s.pc := by
  simp only [blockLoadRepeat_does, sub_eq_zero, State.repeatAt]

theorem blockLoadRepeat_f (step : Word) (s : State) :
    (blockLoadRepeat step s).f = transferFlags s.f s.a (s.peek s.hl) (s.bc - 1) := by
  rw [blockLoadRepeat_eq, apply_ite State.f, repeatAt_f, ite_self]
  rfl

theorem blockLoadRepeat_stores (step : Word) {s : State} (hwf : s.mem.wf = true) :
    StoresByte s (blockLoadRepeat step s) s.de (s.peek s.hl) := by
  have hone := blockLoad_stores step hwf
  rw [blockLoadRepeat_eq]
  split
  · exact hone
  · exact hone.repeatAt s.pc

theorem blockLoadRepeat_advances (step : Word) (s : State) :
    AdvancesTo { transferred step s (blockLoadRepeat step s) with mw := if s.bc = 1 then s.mw else s.pc + 1 }
      (blockLoadRepeat step s) (if s.bc = 1 then s.pc + 2 else s.pc) := by
  have hone := blockLoad_advances step s
  rw [blockLoadRepeat_eq]
  generalize blockLoad step s = t at hone ⊢
  by_cases hlast : s.bc = 1
  · simp only [if_pos hlast]
    exact hone
  · simp only [if_neg hlast, transferred_repeatAt]
    exact hone.repeatAt s.pc

/-- Settles O40: both directions are the model's transfer, with the step 1 or -1. -/
theorem blockTransfer : Obligations.BlockTransfer := by
  unfold Obligations.BlockTransfer
  intro s up hwf d v moved flags
  have hflags := transferFlags_flags s.f s.a v s.bc
  obtain ⟨hframe, hpc⟩ := blockLoad_advances d s
  obtain ⟨hframeRepeat, hpcRepeat⟩ := blockLoadRepeat_advances d s
  refine ⟨⟨blockLoad d s, ?one, hframe, hpc, blockLoad_stores d hwf, hflags⟩,
    ⟨blockLoadRepeat d s, ?repeated, hframeRepeat, hpcRepeat, blockLoadRepeat_stores d hwf, ?flags⟩⟩
  case flags =>
    dsimp only [flags]
    rw [blockLoadRepeat_f]
    exact hflags
  all_goals cases up <;> rfl

/-! ### Block search (R200 to R203) -/

/-- `s` after one search, with `F` as in `t`. -/
def searched (step : Word) (s t : State) : State :=
  { ((s.setHl (s.hl + step)).setBc (s.bc - 1)) with f := t.f, mw := s.mw + step }

theorem searched_repeatAt (step : Word) (s t : State) (pc0 : Word) :
    searched step s (t.repeatAt pc0) = searched step s t := rfl

theorem blockCompare_advances (step : Word) (s : State) :
    AdvancesTo (searched step s (blockCompare step s)) (blockCompare step s) (s.pc + 2) := by
  have hdoes := blockCompare_does step s
  generalize blockCompare step s = t at hdoes ⊢
  have hf : t.f = searchFlags s.f s.a (s.peek s.hl) (s.bc - 1) := congrArg State.f hdoes
  unfold searched
  rw [hf]
  exact advancesTo_of_eq hdoes

theorem searchFlags_flags (f a v : Byte) (bc : Word) :
    let res := a - v
    let h := (a ^^^ v ^^^ res).getLsbD 4
    let n := if h then res - 1 else res
    HasFlags (searchFlags f a v (bc - 1)) (res.getLsbD 7) (a = v) (n.getLsbD 1) h (n.getLsbD 3) (bc ≠ 1) True (flagC f) := by
  intro res h n
  have hmatch : (res == 0) = true ↔ a = v := beq_iff_eq.trans sub_eq_zero
  have hless : res - bitAt h 0 = n := by cases hh : h <;> simp [n, hh, bitAt]
  rw [← hless]
  exact hasFlags_mkF ⟨.rfl, hmatch, .rfl, .rfl, .rfl, count_ne_zero bc, by simp, .rfl⟩

/-- A repeating search ends when `BC` was 1 or on a match. -/
theorem blockCompareRepeat_eq (step : Word) (s : State) :
    blockCompareRepeat step s =
      if s.bc = 1 ∨ s.a = s.peek s.hl then blockCompare step s else (blockCompare step s).repeatAt s.pc := by
  simp only [blockCompareRepeat_does, sub_eq_zero, State.repeatAt]

theorem blockCompareRepeat_f (step : Word) (s : State) :
    (blockCompareRepeat step s).f = searchFlags s.f s.a (s.peek s.hl) (s.bc - 1) := by
  rw [blockCompareRepeat_eq, apply_ite State.f, repeatAt_f, ite_self]
  rfl

theorem blockCompareRepeat_advances (step : Word) (s : State) :
    if s.bc = 1 ∨ s.a = s.peek s.hl then
      AdvancesTo (searched step s (blockCompareRepeat step s)) (blockCompareRepeat step s) (s.pc + 2)
    else
      AdvancesTo { searched step s (blockCompareRepeat step s) with mw := s.pc + 1 } (blockCompareRepeat step s) s.pc := by
  have hone := blockCompare_advances step s
  rw [blockCompareRepeat_eq]
  generalize blockCompare step s = t at hone ⊢
  by_cases hlast : s.bc = 1 ∨ s.a = s.peek s.hl
  · simp only [if_pos hlast]
    exact hone
  · simp only [if_neg hlast, searched_repeatAt]
    exact hone.repeatAt s.pc

/-- Settles O41: both directions are the model's search, with the step 1 or -1. -/
theorem blockSearch : Obligations.BlockSearch := by
  unfold Obligations.BlockSearch
  intro s up d v res h n moved flags
  have hflags := searchFlags_flags s.f s.a v s.bc
  obtain ⟨hframe, hpc⟩ := blockCompare_advances d s
  refine ⟨⟨blockCompare d s, ?one, hframe, hpc, hflags⟩,
    ⟨blockCompareRepeat d s, ?repeated, blockCompareRepeat_advances d s, ?flags⟩⟩
  case flags =>
    dsimp only [flags]
    rw [blockCompareRepeat_f]
    exact hflags
  all_goals cases up <;> rfl

end Sys2Proof.Machine
end

section
/-! SUPPORT. 43_alu8.md: what each 8-bit arithmetic instruction leaves (R220 to R239). The forms of one operation share its
result and its flags, and DAA is shown to correct a decimal sum or difference digit by digit. -/

namespace Sys2Proof.Machine

/-! ### The eight operations in their operand forms (R220) -/

section
variable (op : AluOp) (s : State)

theorem AluOp.exec_regForm (rr : Reg8) : exec (op.regForm rr) s = .next (aluReg op rr s) := by
  cases op <;> rfl

theorem AluOp.exec_immForm (n : Byte) : exec (op.immForm n) s = .next (aluImm op n s) := by
  cases op <;> rfl

theorem AluOp.exec_memForm : exec op.memForm s = .next (aluMemHl op s) := by
  cases op <;> rfl

theorem AluOp.exec_idxForm (k : Idx) (d : Byte) : exec (op.idxForm k d) s = .next (aluMemIdx op k d s) := by
  cases k <;> cases op <;> rfl

theorem AluOp.exec_highForm (k : Idx) : exec (op.highForm k) s = .next (aluHalf op k .xh s) := by
  cases k <;> cases op <;> rfl

theorem AluOp.exec_lowForm (k : Idx) : exec (op.lowForm k) s = .next (aluHalf op k .xl s) := by
  cases k <;> cases op <;> rfl

end

/-- Settles O42: each form is the model's own, whatever the operation. -/
theorem aluForms : Obligations.AluForms := by
  unfold Obligations.AluForms
  intro s op rr n d k
  exact ⟨⟨_, op.exec_regForm s rr, advancesTo_of_eq (aluReg_does op rr s)⟩,
    ⟨_, op.exec_immForm s n, advancesTo_of_eq (aluImm_does op n s)⟩,
    ⟨_, op.exec_memForm s, advancesTo_of_eq (aluMemHl_does op s)⟩,
    ⟨_, op.exec_idxForm s k d, advancesTo_of_eq (aluMemIdx_does op k d s)⟩,
    ⟨_, op.exec_highForm s k, advancesTo_of_eq (aluHalf_does op k .xh s)⟩,
    ⟨_, op.exec_lowForm s k, advancesTo_of_eq (aluHalf_does op k .xl s)⟩⟩

/-! ### Increment and decrement of a byte (R229 to R234) -/

theorem toNat_lowDigit (v : Byte) : (v &&& 0x0F).toNat = v.toNat % 16 := by
  rw [BitVec.toNat_and]
  exact Nat.and_two_pow_sub_one_eq_mod v.toNat 4

theorem lowDigit_eq_iff (v w : Byte) : (v &&& 0x0F == w) = true ↔ v.toNat % 16 = w.toNat := by
  rw [beq_iff_eq, ← BitVec.toNat_inj, toNat_lowDigit]

theorem inc8_flags (f v : Byte) : IncFlags f v (inc8 f v).2 :=
  hasFlags_szxy ⟨lowDigit_eq_iff v 0x0F, beq_iff_eq, Bool.false_eq_true.to_iff, .rfl⟩

theorem dec8_flags (f v : Byte) : DecFlags f v (dec8 f v).2 :=
  hasFlags_szxy ⟨lowDigit_eq_iff v 0, beq_iff_eq, by simp, .rfl⟩

section
variable {s t : State} {p : Word} (h : AdvancesTo s t p)
include h

theorem AdvancesTo.setMw (w : Word) : AdvancesTo { s with mw := w } (t.setMw w) p := by
  obtain ⟨hframe, rfl⟩ := h
  rw [hframe]
  exact ⟨rfl, rfl⟩

/-- A write of `F` after the fetches, in the form of a frame that takes `F` from the state it ends in. -/
theorem AdvancesTo.setF (v : Byte) : let u := t.setF v; AdvancesTo { s with f := u.f } u p := by
  obtain ⟨hframe, rfl⟩ := h
  rw [hframe]
  exact ⟨rfl, rfl⟩

/-- A byte changed in memory after the fetches (R230, R231, R284, R314). -/
theorem AdvancesTo.modifyMem (hwf : s.mem.wf = true) (x : Word) (g : Byte → Byte × Byte) :
    let u := modifyMem x g t
    u = { s with f := u.f, mem := u.mem }.ran u ∧ u.pc = p ∧ StoresByte s u x (g (s.peek x)).1 ∧
      u.f = (g (s.peek x)).2 := by
  obtain ⟨hframe, rfl⟩ := h
  rw [hframe]
  obtain ⟨hdoes, hstores⟩ := modifyMem_does x g (s.ran t)
  exact ⟨(advancesTo_of_eq hdoes).1, rfl, hstores hwf, rfl⟩

theorem AdvancesTo.incMem (hwf : s.mem.wf = true) (x : Word) :
    let u := Machine.modifyMem x (inc8 s.f) t
    u = { s with f := u.f, mem := u.mem }.ran u ∧ u.pc = p ∧ StoresByte s u x (s.peek x + 1) ∧
      IncFlags s.f (s.peek x) u.f := by
  obtain ⟨hframe, hpc, hstores, hf⟩ := h.modifyMem hwf x (inc8 s.f)
  exact ⟨hframe, hpc, hstores, hf ▸ inc8_flags s.f (s.peek x)⟩

theorem AdvancesTo.decMem (hwf : s.mem.wf = true) (x : Word) :
    let u := Machine.modifyMem x (dec8 s.f) t
    u = { s with f := u.f, mem := u.mem }.ran u ∧ u.pc = p ∧ StoresByte s u x (s.peek x - 1) ∧
      DecFlags s.f (s.peek x) u.f := by
  obtain ⟨hframe, hpc, hstores, hf⟩ := h.modifyMem hwf x (dec8 s.f)
  exact ⟨hframe, hpc, hstores, hf ▸ dec8_flags s.f (s.peek x)⟩

end

theorem advancesTo_indexed (s : State) (k : Idx) (d : Byte) :
    AdvancesTo { s with mw := s.xy k + sext16 d } (s.fetchIndexed.setMw (s.idxAddr k d)) (s.pc + 3) :=
  ((advancesTo_prefixedByte s).tick 5).setMw (s.idxAddr k d)

/-- Settles O45: each form is one write of a register, an index half or a byte of memory, and one of `F`. -/
theorem incDec8 : Obligations.IncDec8 := by
  unfold Obligations.IncDec8
  intro s rr d k x
  have hreg (v f : Byte) := ((advancesTo_opcode s).setR8 rr v).setF f
  have hhalf (w : Word) (f : Byte) := ((advancesTo_prefixed s).setXy k w).setF f
  have hidx := advancesTo_indexed s k d
  refine ⟨⟨incReg rr s, rfl, and_assoc.mp ⟨hreg _ _, inc8_flags s.f _⟩⟩,
    ⟨decReg rr s, rfl, and_assoc.mp ⟨hreg _ _, dec8_flags s.f _⟩⟩,
    ⟨incHalf k .xh s, ?incHigh, and_assoc.mp ⟨hhalf _ _, inc8_flags s.f _⟩⟩,
    ⟨decHalf k .xh s, ?decHigh, and_assoc.mp ⟨hhalf _ _, dec8_flags s.f _⟩⟩,
    ⟨incHalf k .xl s, ?incLow, and_assoc.mp ⟨hhalf _ _, inc8_flags s.f _⟩⟩,
    ⟨decHalf k .xl s, ?decLow, and_assoc.mp ⟨hhalf _ _, dec8_flags s.f _⟩⟩,
    fun hwf => ⟨⟨_, rfl, (advancesTo_opcode s).incMem hwf s.hl⟩, ⟨_, rfl, (advancesTo_opcode s).decMem hwf s.hl⟩,
      ⟨_, ?incIndexed, hidx.incMem hwf x⟩, ⟨_, ?decIndexed, hidx.decMem hwf x⟩⟩⟩
  all_goals cases k <;> rfl

/-! ### Operations on `A` and `F` (R235 to R239) -/

theorem accFlags_advances (g : Byte → Byte → Byte × Byte) (s : State) :
    let t := accFlags g s
    AdvancesTo { s with a := (g s.a s.f).1, f := t.f } t (s.pc + 1) :=
  advancesTo_of_eq (accFlags_does g s)

theorem negate_advances (s : State) :
    let t := negate s
    AdvancesTo { s with a := 0 - s.a, f := t.f } t (s.pc + 2) := by
  have hdiff : (subWithBorrow 0 s.a false).1 = 0 - s.a := by simp [subWithBorrow_eq]
  rw [← hdiff]
  exact advancesTo_of_eq (negate_does s)

/-- The correction that DAA adds or subtracts (R235): 6 for the low digit, 0x60 for the high one. -/
def daaCorrection (a f : Byte) : Byte :=
  (if flagH f = true ∨ 9 < a.toNat % 16 then 0x06 else 0) + (if flagC f = true ∨ 0x99 < a.toNat then 0x60 else 0)

/-- `A` after DAA, by the rule (R235). -/
def daaResult (a f : Byte) : Byte := if flagN f then a - daaCorrection a f else a + daaCorrection a f

theorem daaResult_add {a f : Byte} (hn : ¬ flagN f = true) : daaResult a f = a + daaCorrection a f := by
  rw [daaResult, if_neg hn]

theorem daaResult_sub {a f : Byte} (hn : flagN f = true) : daaResult a f = a - daaCorrection a f := by
  rw [daaResult, if_pos hn]

/-- The model joins the two parts of the correction bit by bit, where the rule adds them. -/
theorem daa8_result (a f : Byte) : (daa8 a f).1 = daaResult a f := by
  unfold daaResult daaCorrection
  simp only [daa8, toNat_lowDigit, Bool.or_eq_true, decide_eq_true_eq]
  by_cases hcarry : flagC f = true ∨ 0x99 < a.toNat
  · by_cases hlow : flagH f = true ∨ 9 < a.toNat % 16 <;> simp [hlow, hcarry]
  · simp [hcarry]

theorem daa8_flags (a f : Byte) :
    let res := daaResult a f
    HasFlags (daa8 a f).2 (res.getLsbD 7) (res = 0) (res.getLsbD 5)
      (if flagN f then flagH f = true ∧ a.toNat % 16 < 6 else 9 < a.toNat % 16) (res.getLsbD 3) (parity res) (flagN f)
      (flagC f = true ∨ 0x99 < a.toNat) := by
  intro res
  have hres : (daa8 a f).1 = res := daa8_result a f
  rw [← hres]
  refine hasFlags_szxy ⟨?half, .rfl, .rfl, by simp⟩
  rw [toNat_lowDigit]
  cases flagN f <;> simp

theorem cpl8_flags (a f : Byte) :
    HasFlags (cpl8 a f).2 (flagS f) (flagZ f) (a.getLsbD 5 = false) True (a.getLsbD 3 = false) (flagPV f) True (flagC f) :=
  hasFlags_mkF ⟨.rfl, .rfl, by simp, by simp, by simp, .rfl, by simp, .rfl⟩

theorem ccf8_flags (a f : Byte) :
    HasFlags (ccf8 a f).2 (flagS f) (flagZ f) (a.getLsbD 5) (flagC f) (a.getLsbD 3) (flagPV f) False (flagC f = false) :=
  hasFlags_mkF ⟨.rfl, .rfl, .rfl, .rfl, .rfl, .rfl, by simp, by simp⟩

theorem scf8_flags (a f : Byte) :
    HasFlags (scf8 a f).2 (flagS f) (flagZ f) (a.getLsbD 5) False (a.getLsbD 3) (flagPV f) False True :=
  hasFlags_mkF ⟨.rfl, .rfl, .rfl, by simp, .rfl, .rfl, by simp, by simp⟩

/-- -128 alone has no negative in the range of a byte. -/
theorem overflow_negation (a : Byte) : overflowSub 0 a (0 - a) = true ↔ a = 0x80 := by
  simp only [overflowSub, getLsbD_seven, Bool.and_eq_true, bne_iff_ne, ne_eq, decide_eq_decide]
  bv_omega

/-- NEG is SUB from 0 (R237). -/
theorem negation_flags (a : Byte) :
    HasFlags (subWithBorrow 0 a false).2 ((0 - a).getLsbD 7) (a = 0) ((0 - a).getLsbD 5) (a.toNat % 16 ≠ 0)
      ((0 - a).getLsbD 3) (a = 0x80) True (a ≠ 0) := by
  have hres : 0 - a - BitVec.ofNat 8 false.toNat = 0 - a := BitVec.sub_zero _
  have hzero : (0 - a = 0) = (a = 0) := by rw [zero_sub, neg_eq_zero]
  have hhalf : halfCarry 0 a (0 - a) = true ↔ a.toNat % 16 ≠ 0 :=
    (hres ▸ halfBorrow_difference 0 a false).trans Nat.pos_iff_ne_zero
  have hborrow : decide (0 < a.toNat) = true ↔ a ≠ 0 := by
    rw [decide_eq_true_iff]
    bv_omega
  rw [subWithBorrow_eq, hres, ← hzero]
  exact hasFlags_szxy ⟨hhalf, overflow_negation a, by simp, hborrow⟩

/-- Settles O46: each is one operation on `A` and `F` after the fetches. -/
theorem accumulatorOps : Obligations.AccumulatorOps := by
  unfold Obligations.AccumulatorOps
  intro s copy
  have hdaa := accFlags_advances daa8 s
  rw [daa8_result] at hdaa
  exact ⟨⟨accFlags daa8 s, rfl, and_assoc.mp ⟨hdaa, daa8_flags s.a s.f⟩⟩,
    ⟨accFlags cpl8 s, rfl, and_assoc.mp ⟨accFlags_advances cpl8 s, cpl8_flags s.a s.f⟩⟩,
    ⟨negate s, rfl, and_assoc.mp ⟨negate_advances s, negation_flags s.a⟩⟩,
    ⟨accFlags ccf8 s, rfl, and_assoc.mp ⟨accFlags_advances ccf8 s, ccf8_flags s.a s.f⟩⟩,
    ⟨accFlags scf8 s, rfl, and_assoc.mp ⟨accFlags_advances scf8 s, scf8_flags s.a s.f⟩⟩⟩

/-! ### DAA after an addition or subtraction of decimal bytes (R235) -/

/-- The number whose hexadecimal digits are the two decimal digits of `n`. -/
def decimalCode (n : Nat) : Nat := n / 10 * 16 + n % 10

/-- The byte that holds the two decimal digits of `n`. -/
def decimalByte (n : Nat) : Byte := BitVec.ofNat 8 (decimalCode n)

theorem toNat_decimalByte {n : Nat} (h : n < 100) : (decimalByte n).toNat = decimalCode n :=
  Nat.mod_eq_of_lt (by unfold decimalCode; omega)

/-- Whole multiples of 256 leave no trace in a byte. -/
theorem ofNat_pages_add (m n : Nat) : BitVec.ofNat 8 (256 * m + n) = BitVec.ofNat 8 n :=
  BitVec.eq_of_toNat_eq (Nat.mul_add_mod 256 m n)

/-- The correction, where it is known when each digit is corrected. -/
theorem daaCorrection_eq {a f : Byte} {P Q : Prop} [Decidable P] [Decidable Q]
    (hlow : flagH f = true ∨ 9 < a.toNat % 16 ↔ P) (hhigh : flagC f = true ∨ 0x99 < a.toNat ↔ Q) :
    daaCorrection a f = BitVec.ofNat 8 ((if P then 0x06 else 0) + (if Q then 0x60 else 0)) := by
  simp only [daaCorrection, hlow, hhigh]
  split_ifs <;> rfl

section
variable {x y : Nat}

/-- The low digit of a sum is corrected exactly when the decimal digits carry. -/
theorem decimalCode_lowCarry :
    15 < decimalCode x % 16 + decimalCode y % 16 ∨ 9 < (decimalCode x + decimalCode y) % 256 % 16 ↔
      9 < x % 10 + y % 10 := by
  unfold decimalCode
  omega

/-- The low digit of a difference is corrected exactly when the decimal digits borrow. -/
theorem decimalCode_lowBorrow (hy : y < 100) :
    decimalCode x % 16 < decimalCode y % 16 ∨ 9 < (256 - decimalCode y + decimalCode x) % 256 % 16 ↔
      x % 10 < y % 10 := by
  unfold decimalCode
  omega

theorem decimalCode_highCarry :
    255 < decimalCode x + decimalCode y ∨ 0x99 < (decimalCode x + decimalCode y) % 256 ↔ 99 < x + y := by
  have hsum : 0x99 < decimalCode x + decimalCode y ↔ 99 < x + y := by
    unfold decimalCode
    omega
  omega

theorem decimalCode_highBorrow (hx : x < 100) :
    decimalCode x < decimalCode y ∨ 0x99 < (256 - decimalCode y + decimalCode x) % 256 ↔ x < y := by
  have hless : decimalCode x < decimalCode y ↔ x < y := by
    unfold decimalCode
    omega
  have hbound : decimalCode x ≤ 0x99 := by
    unfold decimalCode
    omega
  omega

variable (hx : x < 100) (hy : y < 100)
include hx hy

/-- A decimal carry adds 6 to the digit it leaves: 10 is written where 16 would be. -/
theorem decimalCode_add :
    decimalCode x + decimalCode y + ((if 9 < x % 10 + y % 10 then 0x06 else 0) + (if 99 < x + y then 0x60 else 0)) =
      256 * ((x + y) / 100) + decimalCode ((x + y) % 100) := by
  unfold decimalCode
  split_ifs <;> omega

/-- A decimal borrow takes 6 from the digit it enters. -/
theorem decimalCode_sub :
    256 * (1 - (x + 100 - y) / 100) + decimalCode x =
      decimalCode ((x + 100 - y) % 100) +
        ((if x % 10 < y % 10 then 0x06 else 0) + (if x < y then 0x60 else 0)) + decimalCode y := by
  unfold decimalCode
  split_ifs <;> omega

theorem daa_after_add :
    let p := addWithCarry (decimalByte x) (decimalByte y) false
    daaResult p.1 p.2 = decimalByte ((x + y) % 100) ∧ (flagC p.2 = true ∨ 0x99 < p.1.toNat ↔ 99 < x + y) := by
  have hhalf := halfCarry_sum (decimalByte x) (decimalByte y) false
  obtain ⟨hres, -, -, -, hh, -, -, hn, hc⟩ := addWithCarry_flags (decimalByte x) (decimalByte y) false
  generalize addWithCarry (decimalByte x) (decimalByte y) false = p at hres hh hn hc ⊢
  replace hh := hh.trans hhalf
  simp only [toNat_decimalByte hx, toNat_decimalByte hy, Bool.toNat_false, Nat.add_zero] at hres hh hc
  have hnat : p.1.toNat = (decimalCode x + decimalCode y) % 256 := congrArg BitVec.toNat hres
  have hlow : flagH p.2 = true ∨ 9 < p.1.toNat % 16 ↔ 9 < x % 10 + y % 10 := by
    rw [hh, hnat]
    exact decimalCode_lowCarry
  have hhigh : flagC p.2 = true ∨ 0x99 < p.1.toNat ↔ 99 < x + y := by
    rw [hc, hnat]
    exact decimalCode_highCarry
  refine ⟨?_, hhigh⟩
  calc daaResult p.1 p.2
    _ = p.1 + daaCorrection p.1 p.2 := daaResult_add hn.mp
    _ = BitVec.ofNat 8 (decimalCode x + decimalCode y +
          ((if 9 < x % 10 + y % 10 then 0x06 else 0) + (if 99 < x + y then 0x60 else 0))) := by
        rw [daaCorrection_eq hlow hhigh, hres, ← BitVec.ofNat_add]
    _ = decimalByte ((x + y) % 100) := by rw [decimalCode_add hx hy, ofNat_pages_add, decimalByte]

theorem daa_after_sub :
    let p := subWithBorrow (decimalByte x) (decimalByte y) false
    daaResult p.1 p.2 = decimalByte ((x + 100 - y) % 100) ∧ (flagC p.2 = true ∨ 0x99 < p.1.toNat ↔ x < y) := by
  have hhalf := halfBorrow_difference (decimalByte x) (decimalByte y) false
  obtain ⟨hres, -, -, -, hh, -, -, hn, hc⟩ := subWithBorrow_flags (decimalByte x) (decimalByte y) false
  generalize subWithBorrow (decimalByte x) (decimalByte y) false = p at hres hh hn hc ⊢
  replace hres : p.1 = decimalByte x - decimalByte y := hres.trans (BitVec.sub_zero _)
  replace hh := hh.trans hhalf
  simp only [toNat_decimalByte hx, toNat_decimalByte hy, Bool.toNat_false, Nat.add_zero] at hh hc
  have hnat : p.1.toNat = (256 - decimalCode y + decimalCode x) % 256 := by
    rw [hres, BitVec.toNat_sub, toNat_decimalByte hx, toNat_decimalByte hy]
  have hlow : flagH p.2 = true ∨ 9 < p.1.toNat % 16 ↔ x % 10 < y % 10 := by
    rw [hh, hnat]
    exact decimalCode_lowBorrow hy
  have hhigh : flagC p.2 = true ∨ 0x99 < p.1.toNat ↔ x < y := by
    rw [hc, hnat]
    exact decimalCode_highBorrow hx
  have hundo : p.1 = decimalByte ((x + 100 - y) % 100) + daaCorrection p.1 p.2 := by
    rw [daaCorrection_eq hlow hhigh, hres, sub_eq_iff_eq_add]
    simp only [decimalByte, ← BitVec.ofNat_add]
    rw [← decimalCode_sub hx hy, ofNat_pages_add]
  exact ⟨(daaResult_sub (hn.mpr trivial)).trans (sub_eq_iff_eq_add.mpr hundo), hhigh⟩

end

/-- An operation on `A` and `B`, then DAA on its result and flags. -/
theorem daa_after_regForm {s : State} {op : AluOp} {res : Byte} {carry : Prop}
    (h : let p := op.apply s.a s.b (flagC s.f)
      daaResult p.1 p.2 = res ∧ (flagC p.2 = true ∨ 0x99 < p.1.toNat ↔ carry)) :
    ∃ t u, exec (op.regForm .b) s = .next t ∧ exec .daa t = .next u ∧ u.a = res ∧ (flagC u.f = true ↔ carry) := by
  obtain ⟨hres, hcarry⟩ := h
  obtain ⟨-, -, -, -, -, -, -, hc⟩ := daa8_flags (aluReg op .b s).a (aluReg op .b s).f
  exact ⟨_, _, op.exec_regForm s .b, rfl, (daa8_result _ _).trans hres, hc.trans hcarry⟩

/-- Settles O47: an operand that holds two digits is the byte of its number, and DAA corrects their sum or difference. -/
theorem daaCorrects : Obligations.DaaCorrects := by
  unfold Obligations.DaaCorrects
  intro s x y hx hy bcd ha hb
  replace ha : s.a = decimalByte x := ha
  replace hb : s.b = decimalByte y := hb
  refine ⟨daa_after_regForm (op := .add) ?_, daa_after_regForm (op := .sub) ?_⟩
  · rw [ha, hb]
    exact daa_after_add hx hy
  · rw [ha, hb]
    exact daa_after_sub hx hy

end Sys2Proof.Machine
end

section
/-! SUPPORT. 44_alu16.md: what each 16-bit arithmetic instruction leaves (R260 to R267). The sum or difference of the model,
taken over the numbers, is the one of words that the rules write, and each instruction writes it after its fetches. -/

namespace Sys2Proof.Machine

/-! ### Sum and difference as words -/

section
variable {w : Nat} (a b : BitVec w) (n : Nat)

theorem ofNat_toNat_add_add : BitVec.ofNat w (a.toNat + b.toNat + n) = a + b + BitVec.ofNat w n := by
  simp only [BitVec.ofNat_add, BitVec.ofNat_toNat, BitVec.setWidth_eq]

theorem ofInt_toNat_sub_sub : BitVec.ofInt w ((a.toNat : Int) - b.toNat - n) = a - b - BitVec.ofNat w n := by
  simp [sub_eq_add_neg, BitVec.ofInt_add, BitVec.ofInt_neg]

end

/-! ### The truth tables (R260 to R263) -/

/-- S, Z and PV are those of the old `F`. Without a carry the model's sum is `a + b` by definition. -/
theorem add16_flags (f : Byte) (a b : Word) :
    let res := a + b
    HasFlags (add16 f a b).2 (flagS f) (flagZ f) (res.getLsbD 13) ((a ^^^ b ^^^ res).getLsbD 12) (res.getLsbD 11) (flagPV f)
      False (65535 < a.toNat + b.toNat) :=
  hasFlags_mkF ⟨.rfl, .rfl, .rfl, .rfl, .rfl, .rfl, Bool.false_eq_true.to_iff, decide_eq_true_iff⟩

theorem adc16_result (f : Byte) (a b : Word) : (adc16 f a b).1 = a + b + BitVec.ofNat 16 (flagC f).toNat :=
  ofNat_toNat_add_add a b (flagC f).toNat

theorem adc16_flags (f : Byte) (a b : Word) :
    let res := a + b + BitVec.ofNat 16 (flagC f).toNat
    HasFlags (adc16 f a b).2 (res.getLsbD 15) (res = 0) (res.getLsbD 13) ((a ^^^ b ^^^ res).getLsbD 12) (res.getLsbD 11)
      (a.getLsbD 15 = b.getLsbD 15 ∧ res.getLsbD 15 ≠ a.getLsbD 15) False
      (65535 < a.toNat + b.toNat + (flagC f).toNat) := by
  rw [← adc16_result]
  exact hasFlags_mkF ⟨.rfl, beq_iff_eq, .rfl, .rfl, .rfl, by simp [adc16], Bool.false_eq_true.to_iff, decide_eq_true_iff⟩

theorem sbc16_result (f : Byte) (a b : Word) : (sbc16 f a b).1 = a - b - BitVec.ofNat 16 (flagC f).toNat :=
  ofInt_toNat_sub_sub a b (flagC f).toNat

theorem sbc16_flags (f : Byte) (a b : Word) :
    let res := a - b - BitVec.ofNat 16 (flagC f).toNat
    HasFlags (sbc16 f a b).2 (res.getLsbD 15) (res = 0) (res.getLsbD 13) ((a ^^^ b ^^^ res).getLsbD 12) (res.getLsbD 11)
      (a.getLsbD 15 ≠ b.getLsbD 15 ∧ res.getLsbD 15 ≠ a.getLsbD 15) True (a.toNat < b.toNat + (flagC f).toNat) := by
  have hborrow : decide ((a.toNat : Int) - b.toNat - (flagC f).toNat < 0) = true ↔ a.toNat < b.toNat + (flagC f).toNat := by
    rw [decide_eq_true_iff]
    omega
  rw [← sbc16_result]
  exact hasFlags_mkF ⟨.rfl, beq_iff_eq, .rfl, .rfl, .rfl, by simp [sbc16], by simp, hborrow⟩

/-! ### The sums and differences in `HL` and `XY` -/

theorem addHl_advances (ss : Pair) (s : State) :
    let t := addHl ss s
    AdvancesTo { s.setHl (s.hl + s.pair ss) with f := t.f, mw := s.hl + 1 } t (s.pc + 1) :=
  advancesTo_of_eq (addHl_does ss s)

theorem addXy_advances (k : Idx) (pp : PairX) (s : State) :
    let t := addXy k pp s
    AdvancesTo { s.setXy k (s.xy k + s.pairX k pp) with f := t.f, mw := s.xy k + 1 } t (s.pc + 2) :=
  advancesTo_of_eq (addXy_does k pp s)

theorem adcHl_advances (ss : Pair) (s : State) :
    let t := adcHl ss s
    AdvancesTo { s.setHl (s.hl + s.pair ss + BitVec.ofNat 16 (flagC s.f).toNat) with f := t.f, mw := s.hl + 1 } t
      (s.pc + 2) := by
  rw [← adc16_result]
  exact advancesTo_of_eq (adcHl_does ss s)

theorem sbcHl_advances (ss : Pair) (s : State) :
    let t := sbcHl ss s
    AdvancesTo { s.setHl (s.hl - s.pair ss - BitVec.ofNat 16 (flagC s.f).toNat) with f := t.f, mw := s.hl + 1 } t
      (s.pc + 2) := by
  rw [← sbc16_result]
  exact advancesTo_of_eq (sbcHl_does ss s)

/-- Settles O48: each form is its fetches and one write of a pair or an index register, the sums and differences with `F`
and `MW` besides. -/
theorem arithmetic16 : Obligations.Arithmetic16 := by
  unfold Obligations.Arithmetic16
  intro s ss pp k added
  have hpair (w : Word) := ((advancesTo_opcode s).tick 2).setPair ss w
  have hindex (w : Word) := ((advancesTo_prefixed s).tick 2).setXy k w
  refine ⟨⟨addHl ss s, rfl, and_assoc.mp ⟨addHl_advances ss s, add16_flags s.f s.hl _⟩⟩,
    ⟨addXy k pp s, ?addIndex, and_assoc.mp ⟨addXy_advances k pp s, add16_flags s.f (s.xy k) _⟩⟩,
    ⟨adcHl ss s, rfl, and_assoc.mp ⟨adcHl_advances ss s, adc16_flags s.f s.hl _⟩⟩,
    ⟨sbcHl ss s, rfl, and_assoc.mp ⟨sbcHl_advances ss s, sbc16_flags s.f s.hl _⟩⟩,
    ⟨_, rfl, hpair (s.pair ss + 1)⟩, ⟨_, rfl, hpair (s.pair ss - 1)⟩,
    ⟨_, ?incIndex, hindex (s.xy k + 1)⟩, ⟨_, ?decIndex, hindex (s.xy k - 1)⟩⟩
  all_goals cases k <;> rfl

end Sys2Proof.Machine
end

section
/-! SUPPORT. 45_rotate_shift.md: what each rotate and shift leaves (R280 to R294). The operand forms share the result and
the flags of their operation; RLD and RRD are read as moves of hexadecimal digits. -/

namespace Sys2Proof.Machine

/-! ### The truth tables (R280 to R284, R293) -/

/-- S, Z and PV are those of the old `F`. -/
theorem rotA8_flags (op : RotOp) (a f : Byte) :
    let p := op.run a (flagC f)
    HasFlags (rotA8 op a f).2 (flagS f) (flagZ f) (p.1.getLsbD 5) False (p.1.getLsbD 3) (flagPV f) False p.2 :=
  hasFlags_mkF ⟨.rfl, .rfl, .rfl, Bool.false_eq_true.to_iff, .rfl, .rfl, Bool.false_eq_true.to_iff, .rfl⟩

theorem rot8_flags (op : RotOp) (f v : Byte) :
    let p := op.run v (flagC f)
    ShiftFlags p.1 p.2 (rot8 op f v).2 :=
  hasFlags_szxy ⟨Bool.false_eq_true.to_iff, .rfl, Bool.false_eq_true.to_iff, .rfl⟩

theorem parityFlags_flags (f v : Byte) :
    HasFlags (parityFlags f v) (v.getLsbD 7) (v = 0) (v.getLsbD 5) False (v.getLsbD 3) (parity v) False (flagC f) :=
  hasFlags_szxy ⟨Bool.false_eq_true.to_iff, .rfl, Bool.false_eq_true.to_iff, .rfl⟩

/-! ### The operand forms of the eight operations (R284) -/

section
variable (op : RotOp) (s : State)

theorem RotOp.exec_regForm (rr : Reg8) : exec (op.regForm rr) s = .next (rotateReg op rr s) := by
  cases op <;> rfl

theorem RotOp.exec_memForm : exec op.memForm s = .next (modifyMem s.hl (rot8 op s.f) s.fetchPrefixed) := by
  cases op <;> rfl

theorem RotOp.exec_idxForm (k : Idx) (d : Byte) :
    exec (op.idxForm k d) s = .next (modifyIdxCb k d (rot8 op s.f) s) := by
  cases k <;> cases op <;> rfl

theorem RotOp.exec_copyForm (k : Idx) (rr : Reg8) (d : Byte) :
    exec (op.copyForm k rr d) s = .next (modifyIdxCbCopy k d (rot8 op s.f) rr s) := by
  cases k <;> cases op <;> rfl

end

/-! ### Rotates of a register -/

/-- The four accumulator rotates (R280 to R283). -/
theorem rotateAcc_runs {j : Instr} {op : RotOp} {s : State} (h : exec j s = .next (rotateAcc op s)) :
    Runs j s fun t =>
      t = { s with a := (op.run s.a (flagC s.f)).1, f := t.f }.ran t ∧ t.pc = s.pc + 1 ∧
      HasFlags t.f (flagS s.f) (flagZ s.f) (t.a.getLsbD 5) False (t.a.getLsbD 3) (flagPV s.f) False
        (op.run s.a (flagC s.f)).2 :=
  have hadvances : let t := rotateAcc op s
      AdvancesTo { s with a := (op.run s.a (flagC s.f)).1, f := t.f } t (s.pc + 1) :=
    advancesTo_of_eq (rotateAcc_does op s)
  ⟨_, h, and_assoc.mp ⟨hadvances, rotA8_flags op s.a s.f⟩⟩

theorem rotateReg_advances (op : RotOp) (rr : Reg8) (s : State) :
    let t := rotateReg op rr s
    AdvancesTo { s.setR8 rr (op.run (s.r8 rr) (flagC s.f)).1 with f := t.f } t (s.pc + 2) :=
  advancesTo_of_eq (rotateReg_does op rr s)

/-! ### A byte at `(XY+d)` changed in memory (R284, R315, R318) -/

section
variable (k : Idx) (d : Byte) (g : Byte → Byte × Byte) {s : State} (hwf : s.mem.wf = true)
include hwf

theorem modifyIdxCb_leaves :
    let x := s.xy k + sext16 d
    let t := modifyIdxCb k d g s
    t = { s with f := t.f, mem := t.mem, mw := x }.ran t ∧ t.pc = s.pc + 4 ∧ StoresByte s t x (g (s.peek x)).1 ∧
      t.f = (g (s.peek x)).2 := by
  intro x t
  obtain ⟨hdoes, hstores⟩ := modifyIdxCb_does k d g s
  have hf : t.f = (g (s.peek x)).2 := congrArg State.f hdoes
  obtain ⟨hframe, hpc⟩ := advancesTo_of_eq (s := { s with f := (g (s.peek x)).2, mem := t.mem, mw := x }) hdoes
  rw [← hf] at hframe
  exact ⟨hframe, hpc, hstores hwf, hf⟩

theorem modifyIdxCbCopy_leaves (rr : Reg8) :
    let x := s.xy k + sext16 d
    let t := modifyIdxCbCopy k d g rr s
    t = { s.setR8 rr (g (s.peek x)).1 with f := t.f, mem := t.mem, mw := x }.ran t ∧ t.pc = s.pc + 4 ∧
      StoresByte s t x (g (s.peek x)).1 ∧ t.f = (g (s.peek x)).2 := by
  intro x t
  obtain ⟨hdoes, hstores⟩ := modifyIdxCbCopy_does k d g rr s
  have hf : t.f = (g (s.peek x)).2 := congrArg State.f hdoes
  obtain ⟨hframe, hpc⟩ := advancesTo_of_eq
    (s := { s.setR8 rr (g (s.peek x)).1 with f := (g (s.peek x)).2, mem := t.mem, mw := x }) hdoes
  rw [← hf] at hframe
  exact ⟨hframe, hpc, hstores hwf, hf⟩

end

/-! ### Digits of a byte (R293, R294) -/

theorem toNat_highDigit (v : Byte) : (v >>> 4).toNat = v.toNat / 16 := Nat.shiftRight_eq_div_pow v.toNat 4

theorem highDigit_lt (v : Byte) : v.toNat / 16 < 16 := Nat.div_lt_of_lt_mul v.isLt

theorem lowDigit_lt (v : Byte) : v.toNat % 16 < 16 := Nat.mod_lt _ (by decide)

theorem and_highDigit (v : Byte) : v &&& (0xF0 : Byte) = (v >>> 4) <<< 4 :=
  (BitVec.shiftLeft_ushiftRight (x := v) (n := 4)).symm

section
variable (high : Byte) {low : Byte} {n : Nat} (hlow : low.toNat = n) (hn : n < 16)
include hlow hn

/-- A digit joined bit by bit to the low digit of `high` moved up is added to it. -/
theorem shiftLeft_or_digit : (high <<< 4) ||| low = BitVec.ofNat 8 (high.toNat % 16 * 16 + n) := by
  subst hlow
  have hhigh : (high <<< 4).toNat = 2 ^ 4 * (high.toNat % 16) := by
    rw [BitVec.toNat_shiftLeft, Nat.shiftLeft_eq]
    omega
  apply BitVec.eq_of_toNat_eq
  rw [BitVec.toNat_or, hhigh, ← Nat.two_pow_add_eq_or_of_lt hn, BitVec.toNat_ofNat]
  omega

theorem and_highDigit_or_digit : (high &&& (0xF0 : Byte)) ||| low = BitVec.ofNat 8 (high.toNat / 16 * 16 + n) := by
  rw [and_highDigit, shiftLeft_or_digit _ hlow hn, toNat_highDigit, Nat.mod_eq_of_lt (highDigit_lt high)]

end

theorem rld8_eq (a m : Byte) :
    rld8 a m =
      (BitVec.ofNat 8 (a.toNat / 16 * 16 + m.toNat / 16), BitVec.ofNat 8 (m.toNat % 16 * 16 + a.toNat % 16)) :=
  Prod.ext (and_highDigit_or_digit a (toNat_highDigit m) (highDigit_lt m))
    (shiftLeft_or_digit m (toNat_lowDigit a) (lowDigit_lt a))

theorem rrd8_eq (a m : Byte) :
    rrd8 a m =
      (BitVec.ofNat 8 (a.toNat / 16 * 16 + m.toNat % 16), BitVec.ofNat 8 (a.toNat % 16 * 16 + m.toNat / 16)) := by
  have hmoved := shiftLeft_or_digit (a &&& 0x0F) (toNat_highDigit m) (highDigit_lt m)
  rw [toNat_lowDigit, Nat.mod_mod] at hmoved
  exact Prod.ext (and_highDigit_or_digit a (toNat_lowDigit m) (lowDigit_lt m)) hmoved

/-- RLD and RRD, `g` giving the new `A` and the byte stored. -/
theorem rotateDigit_runs {j : Instr} {g : Byte → Byte → Byte × Byte} {s : State} {a v : Byte}
    (h : exec j s = .next (rotateDigit g s)) (hg : g s.a (s.peek s.hl) = (a, v)) (hwf : s.mem.wf = true) :
    Runs j s fun t =>
      t = { s with a := a, f := t.f, mem := t.mem, mw := s.hl + 1 }.ran t ∧ t.pc = s.pc + 2 ∧ StoresByte s t s.hl v ∧
      HasFlags t.f (t.a.getLsbD 7) (t.a = 0) (t.a.getLsbD 5) False (t.a.getLsbD 3) (parity t.a) False (flagC s.f) := by
  obtain ⟨hdoes, hstores⟩ := rotateDigit_does g s
  have hadvances : let t := rotateDigit g s
      AdvancesTo { s with a := (g s.a (s.peek s.hl)).1, f := t.f, mem := t.mem, mw := s.hl + 1 } t (s.pc + 2) :=
    advancesTo_of_eq hdoes
  rw [hg] at hadvances hstores
  obtain ⟨hframe, hpc⟩ := hadvances
  exact ⟨_, h, hframe, hpc, hstores hwf, parityFlags_flags s.f (g s.a (s.peek s.hl)).1⟩

/-- Settles O49: each form writes the result of its operation after the fetches, and `F` with it. -/
theorem rotates : Obligations.Rotates := by
  unfold Obligations.Rotates
  intro s op rr d k c turned x
  have hflags (v : Byte) := rot8_flags op s.f v
  refine ⟨rotateAcc_runs rfl, rotateAcc_runs rfl, rotateAcc_runs rfl, rotateAcc_runs rfl,
    ⟨_, op.exec_regForm s rr, and_assoc.mp ⟨rotateReg_advances op rr s, hflags (s.r8 rr)⟩⟩,
    fun hwf => ⟨⟨_, op.exec_memForm s, ?memory⟩, ⟨_, op.exec_idxForm s k d, ?indexed⟩,
      ⟨_, op.exec_copyForm s k rr d, ?copied⟩,
      rotateDigit_runs rfl (rld8_eq _ _) hwf, rotateDigit_runs rfl (rrd8_eq _ _) hwf⟩⟩
  case memory =>
    obtain ⟨hframe, hpc, hstores, hf⟩ := (advancesTo_prefixed s).modifyMem hwf s.hl (rot8 op s.f)
    exact ⟨hframe, hpc, hstores, hf ▸ hflags (s.peek s.hl)⟩
  case indexed =>
    obtain ⟨hframe, hpc, hstores, hf⟩ := modifyIdxCb_leaves k d (rot8 op s.f) hwf
    exact ⟨hframe, hpc, hstores, hf ▸ hflags (s.peek x)⟩
  case copied =>
    obtain ⟨hframe, hpc, hstores, hf⟩ := modifyIdxCbCopy_leaves k d (rot8 op s.f) hwf rr
    exact ⟨hframe, hpc, hstores, hf ▸ hflags (s.peek x)⟩

end Sys2Proof.Machine
end

section
/-! SUPPORT. 46_bit.md: what each bit instruction leaves (R310 to R318). BIT writes `F` from one bit of its operand; SET and
RES go through the read-modify-write operations with a function that gives `F` back as it was. -/

namespace Sys2Proof.Machine

/-! ### BIT (R310 to R312) -/

/-- Only bit 7 can set S, and then the bit tested is bit 7. -/
theorem bitFlags_flags (f : Byte) (b : BitVec 3) (v yx : Byte) :
    BitFlags f b v (yx.getLsbD 5) (yx.getLsbD 3) (bitFlags f b v yx) := by
  have hsign : (b == 7 && v.getLsbD b.toNat) = true ↔ b = 7 ∧ v.getLsbD 7 = true := by
    rw [Bool.and_eq_true, beq_iff_eq]
    exact and_congr_right fun h => by rw [h]; rfl
  have hzero : (!v.getLsbD b.toNat) = true ↔ v.getLsbD b.toNat = false := (Bool.not_eq_true' _).to_iff
  exact hasFlags_mkF ⟨hsign, hzero, .rfl, iff_true_intro rfl, .rfl, hzero, Bool.false_eq_true.to_iff, .rfl⟩

/-- Y and X from the high byte of a word are its bits 13 and 11. -/
theorem bitFlags_hi_flags (f : Byte) (b : BitVec 3) (v : Byte) (w : Word) :
    BitFlags f b v (w.getLsbD 13) (w.getLsbD 11) (bitFlags f b v (hi w)) := by
  have hflags := bitFlags_flags f b v (hi w)
  rwa [getLsbD_hi, getLsbD_hi] at hflags

theorem bitReg_advances (b : BitVec 3) (rr : Reg8) (s : State) :
    let t := bitReg b rr s
    AdvancesTo { s with f := t.f } t (s.pc + 2) :=
  advancesTo_of_eq (bitReg_does b rr s)

theorem bitMemHl_advances (b : BitVec 3) (s : State) :
    let t := bitMemHl b s
    AdvancesTo { s with f := t.f } t (s.pc + 2) :=
  advancesTo_of_eq (bitMemHl_does b s)

theorem bitMemIdx_advances (k : Idx) (b : BitVec 3) (d : Byte) (s : State) :
    let t := bitMemIdx k b d s
    AdvancesTo { s with f := t.f, mw := s.xy k + sext16 d } t (s.pc + 4) :=
  advancesTo_of_eq (bitMemIdx_does k b d s)

/-- Settles O51: each form is its fetches, at most one read, and a write of `F`; the indexed form writes `MW` too. -/
theorem bitTests : Obligations.BitTests := by
  unfold Obligations.BitTests
  intro s b z rr d k x
  refine ⟨⟨bitReg b rr s, rfl, and_assoc.mp ⟨bitReg_advances b rr s, bitFlags_flags s.f b (s.r8 rr) (s.r8 rr)⟩⟩,
    ⟨bitMemHl b s, rfl, and_assoc.mp ⟨bitMemHl_advances b s, bitFlags_hi_flags s.f b (s.peek s.hl) s.mw⟩⟩,
    ⟨bitMemIdx k b d s, ?indexed, and_assoc.mp ⟨bitMemIdx_advances k b d s, bitFlags_hi_flags s.f b (s.peek x) x⟩⟩⟩
  case indexed => cases k <;> rfl

/-! ### SET and RES (R313 to R318) -/

section
variable {j : Instr} {s : State} {g : Byte → Byte × Byte} (hg : ∀ v, (g v).2 = s.f) (hwf : s.mem.wf = true)
include hg hwf

/-- A byte at `(HL)` changed by a `g` that keeps `F` (R314, R317). -/
theorem modifyMemHl_runs (h : exec j s = .next (modifyMem s.hl g s.fetchPrefixed)) :
    Runs j s fun t =>
      t = { s with mem := t.mem }.ran t ∧ t.pc = s.pc + 2 ∧ StoresByte s t s.hl (g (s.peek s.hl)).1 := by
  obtain ⟨hframe, hpc, hstores, hf⟩ := (advancesTo_prefixed s).modifyMem hwf s.hl g
  rw [hf, hg] at hframe
  exact ⟨_, h, hframe, hpc, hstores⟩

variable {k : Idx} {d : Byte}

/-- The same at `(XY+d)` (R315, R318). -/
theorem modifyIdxCb_runs (h : exec j s = .next (modifyIdxCb k d g s)) :
    let x := s.xy k + sext16 d
    Runs j s fun t =>
      t = { s with mem := t.mem, mw := x }.ran t ∧ t.pc = s.pc + 4 ∧ StoresByte s t x (g (s.peek x)).1 := by
  obtain ⟨hframe, hpc, hstores, hf⟩ := modifyIdxCb_leaves k d g hwf
  rw [hf, hg] at hframe
  exact ⟨_, h, hframe, hpc, hstores⟩

/-- The same with the copy to a register (R315, R318). -/
theorem modifyIdxCbCopy_runs {rr : Reg8} (h : exec j s = .next (modifyIdxCbCopy k d g rr s)) :
    let x := s.xy k + sext16 d
    Runs j s fun t =>
      t = { s.setR8 rr (g (s.peek x)).1 with mem := t.mem, mw := x }.ran t ∧ t.pc = s.pc + 4 ∧
      StoresByte s t x (g (s.peek x)).1 := by
  intro x
  obtain ⟨hframe, hpc, hstores, hf⟩ := modifyIdxCbCopy_leaves k d g hwf rr
  rw [hf, hg, ← State.setR8_f s rr (g (s.peek x)).1] at hframe
  exact ⟨_, h, hframe, hpc, hstores⟩

end

/-- Settles O52: SET and RES run alike with `set8` and `res8`, which keep `F`. -/
theorem setRes : Obligations.SetRes := by
  unfold Obligations.SetRes
  intro s b rr d k x on off
  have hset (v : Byte) : (set8 b s.f v).2 = s.f := rfl
  have hres (v : Byte) : (res8 b s.f v).2 = s.f := rfl
  refine ⟨⟨_, rfl, (advancesTo_prefixed s).setR8 rr (on (s.r8 rr))⟩,
    ⟨_, rfl, (advancesTo_prefixed s).setR8 rr (off (s.r8 rr))⟩,
    fun hwf => ⟨modifyMemHl_runs hset hwf rfl, modifyMemHl_runs hres hwf rfl,
      modifyIdxCb_runs hset hwf ?setIndexed, modifyIdxCb_runs hres hwf ?resIndexed,
      modifyIdxCbCopy_runs hset hwf ?setCopied, modifyIdxCbCopy_runs hres hwf ?resCopied⟩⟩
  all_goals cases k <;> rfl

end Sys2Proof.Machine
end

section
/-! SUPPORT. 47_control.md: calls, restarts and returns (R337 to R343). Each is its fetches, then a push and an entry at the
target, or a pop of `PC`. -/

namespace Sys2Proof.Machine

section
variable {s t : State} {p : Word} (h : AdvancesTo s t p)
include h

/-- A call after the fetches: the return address is the one they lead to (R337, R343). -/
theorem AdvancesTo.callTo (hwf : s.mem.wf = true) (x : Word) :
    let u := callTo x t
    u = { s with mw := x, sp := s.sp - 2, mem := u.mem }.ran u ∧ u.pc = x ∧ StoresWord s u (s.sp - 2) p := by
  obtain ⟨hframe, rfl⟩ := h
  rw [hframe]
  obtain ⟨hdoes, hstores⟩ := callTo_does x (s.ran t)
  exact ⟨(advancesTo_of_eq hdoes).1, rfl, hstores hwf⟩

/-- A return after the fetches (R339). -/
theorem AdvancesTo.returnFromStack :
    AdvancesTo { s with mw := s.topWord, sp := s.sp + 2 } t.returnFromStack s.topWord := by
  obtain ⟨hframe, rfl⟩ := h
  rw [hframe]
  exact advancesTo_of_eq (s.ran t).returnFromStack_does

end

theorem callNn_runs {s : State} (hwf : s.mem.wf = true) (nn : Word) : Runs (.callNn nn) s fun t =>
    t = { s with mw := nn, sp := s.sp - 2, mem := t.mem }.ran t ∧ t.pc = nn ∧ StoresWord s t (s.sp - 2) (s.pc + 3) :=
  ⟨_, rfl, (advancesTo_opcodeWord s).callTo hwf nn⟩

theorem callCcNn_runs {s : State} (hwf : s.mem.wf = true) (cc : Cond) (nn : Word) : Runs (.callCcNn cc nn) s fun t =>
    if s.cond cc then
      t = { s with mw := nn, sp := s.sp - 2, mem := t.mem }.ran t ∧ t.pc = nn ∧ StoresWord s t (s.sp - 2) (s.pc + 3)
    else t = { s with mw := nn }.ran t ∧ t.pc = s.pc + 3 := by
  refine ⟨callIf cc nn s, rfl, ?_⟩
  unfold callIf
  split
  case isTrue => exact (advancesTo_opcodeWord s).callTo hwf nn
  case isFalse => exact (advancesTo_opcodeWord s).setMw nn

/-- The model shifts the field of RST where the rule multiplies it by 8 (R343). -/
theorem rst_target (p : BitVec 3) : p.setWidth 16 <<< 3 = BitVec.ofNat 16 (8 * p.toNat) := by
  revert p
  decide

theorem ret_runs (s : State) : Runs .ret s fun t =>
    t = { s with mw := s.topWord, sp := s.sp + 2 }.ran t ∧ t.pc = s.topWord :=
  ⟨_, rfl, (advancesTo_opcode s).returnFromStack⟩

theorem retCc_runs (s : State) (cc : Cond) : Runs (.retCc cc) s fun t =>
    if s.cond cc then t = { s with mw := s.topWord, sp := s.sp + 2 }.ran t ∧ t.pc = s.topWord
    else t = s.ran t ∧ t.pc = s.pc + 1 := by
  refine ⟨returnIf cc s, rfl, ?_⟩
  unfold returnIf
  split
  case isTrue => exact ((advancesTo_opcode s).tick 1).returnFromStack
  case isFalse => exact (advancesTo_opcode s).tick 1

theorem returnFromInterrupt_advances (s : State) :
    AdvancesTo { s with mw := s.topWord, sp := s.sp + 2, iff1 := s.iff2 } (returnFromInterrupt s) s.topWord :=
  advancesTo_of_eq (returnFromInterrupt_does s)

/-- Settles O54: after the fetches each form calls or returns; RETI and RETN are one operation. -/
theorem calls : Obligations.Calls := by
  unfold Obligations.Calls
  intro s cc nn p copy top
  refine ⟨fun hwf => ⟨callNn_runs hwf nn, callCcNn_runs hwf cc nn, ⟨_, rfl, ?restart⟩⟩, ret_runs s, retCc_runs s cc,
    ⟨_, rfl, returnFromInterrupt_advances s⟩, ⟨_, rfl, returnFromInterrupt_advances s⟩⟩
  case restart =>
    rw [← rst_target]
    exact (advancesTo_opcode s).callTo hwf _

/-- A word stored off the ROM reads back. -/
theorem StoresWord.peekWord {s t : State} {x w : Word} (h : StoresWord s t x w) (hlow : s.isRom x = false)
    (hhigh : s.isRom (x + 1) = false) : t.peekWord x = w := by
  have hne : x + 1 ≠ x := by bv_omega
  rw [State.peekWord, h (x + 1), h x, if_neg (hne ·.1), if_pos ⟨rfl, hhigh⟩, if_pos ⟨rfl, hlow⟩, mkWord_hi_lo]

theorem StoresWord.peek_ne {s t : State} {x w y : Word} (h : StoresWord s t x w) (hlow : y ≠ x) (hhigh : y ≠ x + 1) :
    t.peek y = s.peek y := by
  rw [h y, if_neg (hlow ·.1), if_neg (hhigh ·.1)]

/-- Settles O55: the RET pops the word that the CALL stored, as no byte of it is ROM. -/
theorem callThenReturn : Obligations.CallThenReturn := by
  unfold Obligations.CallThenReturn
  intro s nn hwf hhigh hlow
  have hnext : s.sp - 1 = s.sp - 2 + 1 := (sub_two_add_one s.sp).symm
  rw [hnext] at hhigh ⊢
  obtain ⟨t, ht, hcalled, -, hstores⟩ := callNn_runs hwf nn
  obtain ⟨u, hu, hreturned, hpc⟩ := ret_runs t
  have hsp : t.sp = s.sp - 2 := (congrArg State.sp hcalled :)
  have htop : t.topWord = s.pc + 3 := by rw [State.topWord, hsp, hstores.peekWord hlow hhigh]
  have hmem : u.mem = t.mem := (congrArg State.mem hreturned :)
  rw [htop] at hreturned hpc
  refine ⟨t, u, ht, hu, ?frame, hpc, fun y hne hne' => ?memory⟩
  case frame =>
    rw [hreturned, hcalled]
    simp [State.ran]
  case memory =>
    rw [State.peek, hmem]
    exact hstores.peek_ne hne' hne

end Sys2Proof.Machine
end

section
/-! SUPPORT. 48_io.md: input and output (R360 to R374). Each form is its fetches, one port access and its register writes; a
block form moves one byte between memory and the port, and its repeating form puts `PC` back while `B` is not 0 (R195). -/

namespace Sys2Proof.Machine

/-! ### IN and OUT (R360 to R365) -/

section
variable {s t : State} {p : Word} (h : AdvancesTo s t p)
include h

/-- A port read after the fetches, with its record (R69, log 5). -/
theorem AdvancesTo.portInCycle (q : Word) :
    AdvancesTo { s with ports := s.ports ++ [.input q (t.portIn q) (t.portTact q)] } (t.portInCycle q) p := by
  obtain ⟨hframe, rfl⟩ := h
  refine ⟨?_, rfl⟩
  rw [hframe]
  rfl

/-- A port write after the fetches, with its record (R75, log 5). -/
theorem AdvancesTo.portOut (q : Word) (v : Byte) :
    AdvancesTo { s with ports := s.ports ++ [.output q v (t.portTact q)] } (t.portOut q v) p := by
  obtain ⟨hframe, rfl⟩ := h
  refine ⟨?_, rfl⟩
  rw [hframe]
  rfl

end

theorem portInReg_advances (rr : Reg8) (s : State) :
    let t := portInReg rr s
    let v := s.fetchPrefixed.portIn s.bc
    AdvancesTo { s.setR8 rr v with
      f := t.f, mw := s.bc + 1, ports := s.ports ++ [.input s.bc v (s.fetchPrefixed.portTact s.bc)] } t (s.pc + 2) := by
  intro t v
  have hports : t.ports = s.ports ++ [.input s.bc v (s.fetchPrefixed.portTact s.bc)] := by simp [t, v, portInReg]
  rw [← hports]
  exact advancesTo_of_eq (portInReg_does rr s)

theorem portInFlags_advances (s : State) :
    let t := portInFlags s
    AdvancesTo { s with f := t.f, mw := s.bc + 1, ports := t.ports } t (s.pc + 2) :=
  advancesTo_of_eq (portInFlags_does s)

/-- Settles O56: each form is its fetches and one port access at the tact they lead to. -/
theorem inOut : Obligations.InOut := by
  unfold Obligations.InOut
  intro s rr n t1 t2 q flags
  have hflags (v : Byte) : flags v (parityFlags s.f v) := parityFlags_flags s.f v
  exact ⟨⟨_, rfl, (((advancesTo_opcodeByte s).portInCycle q).setR8 .a _).setMw (q + 1)⟩,
    ⟨_, rfl, and_assoc.mp ⟨portInReg_advances rr s, hflags _⟩⟩,
    ⟨_, rfl, and_assoc.mp ⟨portInFlags_advances s, hflags _⟩⟩,
    ⟨_, rfl, ((advancesTo_opcodeByte s).portOut q s.a).setMw (mkWord s.a (n + 1))⟩,
    ⟨_, rfl, ((advancesTo_prefixed s).portOut s.bc (s.r8 rr)).setMw (s.bc + 1)⟩,
    ⟨_, rfl, ((advancesTo_prefixed s).portOut s.bc 0).setMw (s.bc + 1)⟩⟩

/-! ### Block input and output (R366 to R374) -/

theorem blockIoFlags_flags (b v : Byte) (n : Nat) : BlockIoFlags b v n (blockIoFlags b v n) :=
  hasFlags_szxy ⟨decide_eq_true_iff, .rfl, .rfl, decide_eq_true_iff⟩

/-- `s` after one block input or output (R366): `HL` stepped, `B` counted down, `ev` recorded, and `F`, memory and `MW` as
given. -/
def afterBlockIo (s : State) (step : Word) (ev : PortEvent) (f : Byte) (mem : Memory) (mw : Word) : State :=
  { s.setHl (s.hl + step) with b := s.b - 1, f := f, mem := mem, mw := mw, ports := s.ports ++ [ev] }

theorem blockIn_advances (step : Word) (s : State) :
    let t := blockIn step s
    let u := s.fetchPrefixed.tick 1
    AdvancesTo (afterBlockIo s step (.input s.bc (u.portIn s.bc) (u.portTact s.bc)) t.f t.mem (s.bc + step)) t
      (s.pc + 2) := by
  intro t u
  have hports : (blockIn step s).ports = s.ports ++ [.input s.bc (u.portIn s.bc) (u.portTact s.bc)] := by
    simp [u, blockIn]
  obtain ⟨hdoes, -⟩ := blockIn_does step s
  subst t
  generalize blockIn step s = t at hdoes hports ⊢
  rw [afterBlockIo, ← hports]
  exact advancesTo_of_eq hdoes

theorem blockOut_advances (step : Word) (s : State) :
    let t := blockOut step s
    let p := mkWord (s.b - 1) s.c
    let tact := ((s.fetchPrefixed.tick 1).readCycle s.hl).portTact p
    AdvancesTo (afterBlockIo s step (.output p (s.peek s.hl) tact) t.f s.mem (p + step)) t (s.pc + 2) := by
  intro t p tact
  have hports : (blockOut step s).ports = s.ports ++ [.output p (s.peek s.hl) tact] := by simp [p, tact, blockOut]
  have hdoes := blockOut_does step s
  subst t
  generalize blockOut step s = t at hdoes hports ⊢
  rw [afterBlockIo, ← hports]
  exact advancesTo_of_eq hdoes

/-- The repeating form leaves `MW`, and puts `PC` back while the new `B` is not 0. -/
theorem AdvancesTo.blockIoRepeat {s t : State} {p : Word} (h : AdvancesTo s t p) (pc0 : Word) :
    AdvancesTo s (blockIoRepeat pc0 t) (if s.b = 0 then p else pc0) := by
  obtain ⟨hframe, rfl⟩ := h
  have hb : t.b = s.b := (congrArg State.b hframe :)
  unfold Machine.blockIoRepeat
  rw [hb]
  split
  case isTrue => exact ⟨hframe, rfl⟩
  case isFalse =>
    rw [hframe]
    exact ⟨rfl, rfl⟩

/-- The sum of R366 for an input: `C` steps as `HL` does. -/
theorem c_stepped (c : Byte) (up : Bool) : c + lo (if up then 1 else -1) = if up then c + 1 else c - 1 := by
  cases up
  · exact (sub_eq_add_neg c 1).symm
  · rfl

/-- Settles O57: both directions are the model's block input and output, with the step 1 or -1. -/
theorem blockIo : Obligations.BlockIo := by
  unfold Obligations.BlockIo
  intro s up hwf d b p tin vin tout vout back took gave
  have hin := blockIn_advances d s
  have hout := blockOut_advances d s
  have hstores : StoresByte s (blockIn d s) s.hl vin := (blockIn_does d s).2 hwf
  have hinFlags : BlockIoFlags b vin (vin.toNat + (if up then s.c + 1 else s.c - 1).toNat) (blockIn d s).f := by
    rw [← c_stepped]
    exact blockIoFlags_flags b vin _
  have houtFlags : BlockIoFlags b vout (vout.toNat + (lo (s.hl + d)).toNat) (blockOut d s).f :=
    blockIoFlags_flags b vout _
  have htook {t : State} {q : Word} (h : AdvancesTo
      (afterBlockIo s d (.input s.bc vin tin) (blockIn d s).f (blockIn d s).mem (s.bc + d)) t q) : took t ∧ t.pc = q := by
    obtain ⟨hframe, hpc⟩ := h
    have hf : t.f = (blockIn d s).f := (congrArg State.f hframe :)
    have hmem : t.mem = (blockIn d s).mem := (congrArg State.mem hframe :)
    rw [← hf, ← hmem] at hframe
    rw [← hf] at hinFlags
    exact ⟨⟨hframe, hstores.congr hmem, hinFlags⟩, hpc⟩
  have hgave {t : State} {q : Word} (h : AdvancesTo
      (afterBlockIo s d (.output p vout tout) (blockOut d s).f s.mem (p + d)) t q) : gave t ∧ t.pc = q := by
    obtain ⟨hframe, hpc⟩ := h
    have hf : t.f = (blockOut d s).f := (congrArg State.f hframe :)
    rw [← hf] at hframe houtFlags
    exact ⟨⟨hframe, houtFlags⟩, hpc⟩
  refine ⟨⟨blockIn d s, ?input, htook hin⟩, ⟨blockIoRepeat s.pc (blockIn d s), ?inputs, htook (hin.blockIoRepeat s.pc)⟩,
    ⟨blockOut d s, ?output, hgave hout⟩, ⟨blockIoRepeat s.pc (blockOut d s), ?outputs, hgave (hout.blockIoRepeat s.pc)⟩⟩
  all_goals cases up <;> rfl

end Sys2Proof.Machine
end

section
/-! SUPPORT. 49_cpu_control.md: CPU control and the index prefixes that do nothing (R380 to R389). -/

namespace Sys2Proof.Machine

/-! ### Control instructions (R380 to R388) -/

section
variable {s t : State} {p : Word} (h : AdvancesTo s t p)
include h

theorem AdvancesTo.setIff (v1 v2 : Bool) : AdvancesTo { s with iff1 := v1, iff2 := v2 } (t.setIff v1 v2) p := by
  obtain ⟨hframe, rfl⟩ := h
  rw [hframe]
  exact ⟨rfl, rfl⟩

theorem AdvancesTo.setIm (m : IntMode) : AdvancesTo { s with im := m } (t.setIm m) p := by
  obtain ⟨hframe, rfl⟩ := h
  rw [hframe]
  exact ⟨rfl, rfl⟩

theorem AdvancesTo.blockInt : AdvancesTo { s with intBlocked := true } t.blockInt p := by
  obtain ⟨hframe, rfl⟩ := h
  rw [hframe]
  exact ⟨rfl, rfl⟩

/-- HALT after its fetches (R381). -/
theorem AdvancesTo.enterHalt :
    AdvancesTo { s with halted := true } (enterHalt t) (if s.cfg.haltPc = .self then p - 1 else p) := by
  obtain ⟨hframe, rfl⟩ := h
  rw [hframe]
  exact ⟨rfl, rfl⟩

end

theorem exec_of_isRedundant {j : Instr} (h : isRedundant j = true) (s : State) :
    exec j s = .next s.fetchOpcode.blockInt := by
  unfold isRedundant at h
  split at h
  case h_7 => cases h
  all_goals rfl

/-- Settles O58: each is its fetches and at most one write. -/
theorem cpuControl : Obligations.CpuControl := by
  unfold Obligations.CpuControl
  intro s op b5 b3 k j rest
  refine ⟨⟨_, rfl, advancesTo_opcode s⟩, ⟨_, rfl, advancesTo_prefixed s⟩, ⟨_, rfl, (advancesTo_opcode s).enterHalt⟩,
    ⟨_, ?prefixedHalt, (advancesTo_prefixed s).enterHalt⟩, ⟨_, rfl, (advancesTo_opcode s).setIff false false⟩,
    ⟨_, rfl, ((advancesTo_opcode s).setIff true true).blockInt⟩, ⟨_, rfl, (advancesTo_prefixed s).setIm .im0⟩,
    ⟨_, rfl, (advancesTo_prefixed s).setIm .im1⟩, ⟨_, rfl, (advancesTo_prefixed s).setIm .im2⟩,
    fun hj => ⟨_, exec_of_isRedundant hj s, (advancesTo_opcode s).blockInt⟩⟩
  case prefixedHalt => cases k <;> rfl

/-! ### Redundant prefixes (R387) -/

/-- An index prefix before DD, FD or ED. -/
theorem isRedundant_instrAt {s : State} (h0 : s.peek s.pc = 0xDD ∨ s.peek s.pc = 0xFD)
    (h1 : s.peek (s.pc + 1) = 0xDD ∨ s.peek (s.pc + 1) = 0xFD ∨ s.peek (s.pc + 1) = 0xED) :
    isRedundant s.instrAt = true := by
  unfold State.instrAt
  obtain h0 | h0 := h0 <;> obtain h1 | h1 | h1 := h1 <;> rw [h0, h1] <;> rfl

/-- Settles O13: the step runs a redundant prefix, and the modes are None between steps. -/
theorem redundantPrefixStep : Obligations.RedundantPrefixStep := by
  unfold Obligations.RedundantPrefixStep
  intro s ⟨hmem, hprefix, hindex, hdisp⟩ h0 h1
  refine ⟨s.beginInstr.fetchOpcode.blockInt.endInstr, ?runs, ?frame, fun hcontend => ?tacts⟩
  case runs =>
    rw [State.decodeAndExecute, exec_of_isRedundant (isRedundant_instrAt h0 h1)]
  case frame =>
    simp [State.beginInstr, State.endInstr, hprefix, hindex, hdisp]
  case tacts =>
    have hbegin : s.beginInstr.Uncontended := hcontend
    exact fetchOpcode_uncontended hbegin

/-! ### Ignored prefixes (R389) -/

theorem isTableEntry_of_ixIgnored {base : Instr} (h : (Instr.ixIgnored base).wf = true) : base.isTableEntry = true := by
  obtain ⟨hfree, hwf⟩ := Bool.and_eq_true_iff.mp h
  exact Instr.isTableEntry_iff.mpr ⟨hwf, Instr.inTables_of_prefixFree hfree⟩

/-- Settles O59: after one opcode fetch the prefix runs its base instruction, which stands in the tables. -/
theorem ignoredPrefix : Obligations.IgnoredPrefix := by
  unfold Obligations.IgnoredPrefix
  intro s base h
  have hentry := isTableEntry_of_ixIgnored h
  obtain ⟨hwf, hrow⟩ := Instr.decoded_of_isTableEntry hentry
  obtain ⟨t, ht⟩ := exec_next hwf hrow s.fetchOpcode
  have hrun : runTable base s.fetchOpcode = .next t := (runTable_eq_exec hentry _).trans ht
  exact ⟨⟨t, hrun, ht⟩, ⟨t, hrun, ht⟩⟩

/-! ### Every instruction completes (R408) -/

theorem runTable_decoded_next {j : Instr} (h : j.isTableEntry = true) (s : State) : ∃ t, runTable j s = .next t :=
  runTable_next (Instr.isTableEntry_iff.mp h).2 s

theorem runIndexed_next (k : Idx) (s : State) : ∃ t, runIndexed k s = .next t := by
  obtain ⟨hwf, hrow⟩ := decodeIndexed_decoded k (s.peek (s.pc + 1)) (s.peek (s.pc + 2)) (s.peek (s.pc + 3))
  rw [runIndexed_eq_exec]
  exact exec_next hwf hrow s

/-- Settles O28: a prefix row runs an entry of the table it enters, every other term what `exec_next` says. -/
theorem execTotal : Obligations.ExecTotal := by
  unfold Obligations.ExecTotal
  intro j s hwf
  cases j
  case cbPrefix => exact runTable_decoded_next (decodeCb_isTableEntry _) s
  case edPrefix => exact runTable_decoded_next (decodeEd_isTableEntry _ _ _) s
  case ddPrefix => exact runIndexed_next .ix s
  case fdPrefix => exact runIndexed_next .iy s
  case ixCbPrefix => exact runTable_decoded_next (decodeIdxCb_isTableEntry .ix _ _) s
  case iyCbPrefix => exact runTable_decoded_next (decodeIdxCb_isTableEntry .iy _ _) s
  all_goals exact exec_next hwf rfl s

end Sys2Proof.Machine
end

section
/-! SUPPORT. 60_exceptions.md and 70_reset_and_hazards.md: which action an engine step takes (R401), what each leaves, the
Interrupt Device (R420 to R424), the debug hooks (R440) and the reset (R450 to R452). -/

namespace Sys2Proof.Machine

/-! ### The action of an engine step (R401) -/

theorem State.acceptsInt_iff (s : State) :
    s.acceptsInt = true ↔ s.reqInt = true ∧ s.iff1 = true ∧ s.intBlocked = false := by
  simp [acceptsInt, and_assoc]

theorem State.engineStep_reset {s : State} (h : s.reqReset = true) : s.engineStep = .next s.resetAction := by
  simp [engineStep, h]

section
variable {s : State} (hreset : s.reqReset = false)
include hreset

theorem State.engineStep_nmi (hnmi : s.reqNmi = true) : s.engineStep = .next s.serviceNmi := by
  simp [engineStep, hreset, hnmi]

variable (hnmi : s.reqNmi = false)
include hnmi

theorem State.engineStep_int (hint : s.acceptsInt = true) : s.engineStep = s.serviceInt := by
  simp [engineStep, hreset, hnmi, hint]

theorem State.engineStep_halted (hint : s.acceptsInt = false) (hhalted : s.halted = true) :
    s.engineStep = .next s.haltedStep := by
  simp [engineStep, hreset, hnmi, hint, hhalted]

theorem State.engineStep_instr (hint : s.acceptsInt = false) (hhalted : s.halted = false) :
    s.engineStep = s.decodeAndExecute := by
  simp [engineStep, hreset, hnmi, hint, hhalted]

end

/-- Settles O5: the five actions, in their order. -/
theorem enginePriority : Obligations.EnginePriority := by
  unfold Obligations.EnginePriority
  intro s
  rw [← s.acceptsInt_iff, Bool.not_eq_true]
  exact ⟨State.engineStep_reset, State.engineStep_nmi, fun hreset hnmi =>
    ⟨State.engineStep_int hreset hnmi, fun hint =>
      ⟨State.engineStep_halted hreset hnmi hint, State.engineStep_instr hreset hnmi hint⟩⟩⟩

/-! ### The step and the instruction it runs (R400, R402) -/

/-- The decoder reads the bytes at `PC` as `instrAt` does. -/
theorem State.instrAt_of_decode {s : State} {j : Instr} {n : Nat}
    (h : decode [s.peek s.pc, s.peek (s.pc + 1), s.peek (s.pc + 2), s.peek (s.pc + 3)] = .ok (j, n)) : s.instrAt = j := by
  have hsize := (decode4_encode (s.peek s.pc) (s.peek (s.pc + 1)) (s.peek (s.pc + 2)) (s.peek (s.pc + 3))).2
  obtain ⟨-, hbound, -⟩ := Instr.size_bounds s.instrAt_decoded.1
  have hfront := decode_eq_decodeFront (bs := [s.peek s.pc, s.peek (s.pc + 1), s.peek (s.pc + 2), s.peek (s.pc + 3)])
    (hsize ▸ hbound)
  exact congrArg Prod.fst (Except.ok.inj (hfront.symm.trans h))

@[simp] theorem State.deviceStep_reqReset (s : State) : s.deviceStep.reqReset = s.reqReset :=
  (congrArg reqReset s.deviceStep_does :)

@[simp] theorem State.deviceStep_reqNmi (s : State) : s.deviceStep.reqNmi = s.reqNmi := (congrArg reqNmi s.deviceStep_does :)

@[simp] theorem State.deviceStep_halted (s : State) : s.deviceStep.halted = s.halted := (congrArg halted s.deviceStep_does :)

@[simp] theorem State.deviceStep_instrAt (s : State) : s.deviceStep.instrAt = s.instrAt :=
  (congrArg instrAt s.deviceStep_does :)

/-- Settles O4: the device leaves what the choice of the action and the decoder read. -/
theorem stepRunsDecoded : Obligations.StepRunsDecoded := by
  unfold Obligations.StepRunsDecoded
  refine ⟨fun s => ⟨fun h => if_pos h, fun h => if_neg (Bool.not_eq_true _ ▸ h)⟩, ?_⟩
  intro s j n hdecode husable hreset hnmi hhalted hint
  have hinstr : s.deviceStep.instrAt = j := s.deviceStep_instrAt.trans (State.instrAt_of_decode hdecode)
  rw [step_of_usable ((usable_iff s.cfg).mp husable), State.engineStep_instr (s.deviceStep_reqReset.trans hreset)
    (s.deviceStep_reqNmi.trans hnmi) hint (s.deviceStep_halted.trans hhalted), ← hinstr]
  rfl

/-! ### The halted step (R405) -/

theorem bumpR_bit7 (v : Byte) : (bumpR v).getLsbD 7 = v.getLsbD 7 := by
  simp [bumpR]

theorem bumpR_low (v : Byte) : (bumpR v).toNat % 128 = (v.toNat + 1) % 128 := by
  revert v
  decide

/-- Settles O8: one refresh and 4 tacts. -/
theorem haltedStep : Obligations.HaltedStep := by
  unfold Obligations.HaltedStep
  intro s hhalted hreset hnmi hint
  rw [← s.acceptsInt_iff, Bool.not_eq_true] at hint
  exact ⟨s.haltedStep, State.engineStep_halted hreset hnmi hint hhalted, rfl, bumpR_bit7 s.r, bumpR_low s.r⟩

/-! ### The interrupts (R410 to R414) -/

/-- Settles O9: the service clears the request and IFF1, takes the interrupt and enters 0066. -/
theorem nmiAccepted : Obligations.NmiAccepted := by
  unfold Obligations.NmiAccepted
  intro s hwf hreset hnmi
  obtain ⟨hdoes, hstores⟩ := State.takeInterrupt_does { s with reqNmi := false, iff1 := false } 5
  refine ⟨s.serviceNmi, State.engineStep_nmi hreset hnmi, ?frame, ?stores, fun hcontend => ?tacts⟩
  case frame => exact congrArg (State.enterAt · 0x0066) hdoes
  case stores => exact hstores hwf
  case tacts => exact State.takeInterrupt_tacts { s with reqNmi := false, iff1 := false } 5 hcontend

theorem State.acceptInt_tacts {s : State} (h : s.Uncontended) : s.acceptInt.tacts = s.tacts + 13 :=
  takeInterrupt_tacts { s with reqInt := false, iff1 := false, iff2 := false } 7 h

/-- Whatever the mode: the interrupt accepted, then the new `PC`. -/
theorem State.acceptInt_enters {s : State} (hwf : s.mem.wf = true) (after : Tact) (w : Word) (n : Nat)
    (h : s.Uncontended → after = s.tacts + BitVec.ofNat 64 n) :
    EntersInt s ({ s.acceptInt with tacts := after }.enterAt w) w n := by
  obtain ⟨hdoes, hstores⟩ := takeInterrupt_does { s with reqInt := false, iff1 := false, iff2 := false } 7
  exact ⟨congrArg (fun t : State => { t with tacts := after }.enterAt w) hdoes, hstores hwf, h⟩

/-- Mode 2 reads its vector after the push (R412). -/
theorem State.vectorRead_tacts {s : State} (h : s.Uncontended) (v : Word) :
    ((s.acceptInt.readCycle v).readCycle (v + 1)).tacts = s.tacts + 19 := by
  have haccept : s.acceptInt.Uncontended := Uncontended.of_cfg h (congrArg Reserved.cfg s.acceptInt_reserved :)
  have hread : (s.acceptInt.readCycle v).Uncontended := Uncontended.of_cfg haccept (State.readCycle_cfg _ v)
  rw [readCycle_uncontended hread, readCycle_uncontended haccept, acceptInt_tacts h, BitVec.add_assoc, BitVec.add_assoc]
  rfl

theorem mkWord_zero (v : Byte) : mkWord 0 v = v.setWidth 16 := by
  apply BitVec.eq_of_getLsbD_eq
  intro n hn
  rw [getLsbD_mkWord]
  by_cases h : n < 8
  · simp [h, hn]
  · simp [h, BitVec.getLsbD_of_ge v n (by omega)]

/-- Settles O10: each mode is the common acceptance and an entry of its own. -/
theorem interruptAccepted : Obligations.InterruptAccepted := by
  unfold Obligations.InterruptAccepted
  intro s hwf hreset hnmi hreq hiff hblocked
  rw [State.engineStep_int hreset hnmi (s.acceptsInt_iff.mpr ⟨hreq, hiff, hblocked⟩), mkWord_zero]
  unfold State.serviceInt
  refine ⟨fun him => ?mode1, fun him => ?mode2, fun him hrst => ?mode0, fun him hrst => ?refused⟩
  all_goals rw [him]
  case mode1 => exact ⟨_, rfl, s.acceptInt_enters hwf _ _ 13 State.acceptInt_tacts⟩
  case mode2 => exact ⟨_, rfl, s.acceptInt_enters hwf _ _ 19 (State.vectorRead_tacts · _)⟩
  case mode0 => exact ⟨_, if_pos hrst, s.acceptInt_enters hwf _ _ 13 State.acceptInt_tacts⟩
  case refused => exact if_neg hrst

/-! ### EI and the boundary after it (R383, R402, R403) -/

theorem State.decodeAndExecute_ei {s : State} (h : s.instrAt = .ei) :
    ∃ t, s.decodeAndExecute = .next t ∧
      t = { s with
        iff1 := true, iff2 := true, intBlocked := true, pc := s.pc + 1, r := bumpR s.r, tacts := t.tacts
        prefixMode := .none, indexMode := .none, heldDisp := none } := by
  refine ⟨((s.beginInstr.fetchOpcode.setIff true true).blockInt).endInstr, ?_, by simp [beginInstr, endInstr]⟩
  rw [decodeAndExecute, h]
  rfl

/-- Settles O11: the step after EI finds IntBlocked set, and its own instruction clears it. -/
theorem eiDelay : Obligations.EiDelay := by
  unfold Obligations.EiDelay
  intro s hei hhalted hreset hnmi hint
  obtain ⟨t, hstep, hframe⟩ := State.decodeAndExecute_ei hei
  have hblocked : t.intBlocked = true := (congrArg State.intBlocked hframe :)
  have hrefuses : t.acceptsInt = false := by rw [State.acceptsInt, hblocked, Bool.not_true, Bool.and_false]
  have hnext : t.engineStep = t.decodeAndExecute :=
    State.engineStep_instr ((congrArg State.reqReset hframe :).trans hreset) ((congrArg State.reqNmi hframe :).trans hnmi)
      hrefuses ((congrArg State.halted hframe :).trans hhalted)
  refine ⟨t, (State.engineStep_instr hreset hnmi hint hhalted).trans hstep, (congrArg State.iff1 hframe :),
    (congrArg State.iff2 hframe :), hblocked, (congrArg State.pc hframe :), hrefuses, hnext, ?_⟩
  intro u hu hcore hredundant
  rw [← Bool.not_eq_true, blockedOnlyBy t u (hnext.symm.trans hu)]
  exact not_or.mpr ⟨hcore, Bool.eq_false_iff.mp hredundant⟩

/-! ### The Interrupt Device (R420 to R424) -/

section
variable {s : State} {ft : Nat}

theorem State.checkForInterrupt_revoked (h : s.devRevoked = true) : s.checkForInterrupt ft = s := if_pos h

theorem State.checkForInterrupt_before (h : ft < s.cfg.interruptTact) : s.checkForInterrupt ft = s := by
  simp [checkForInterrupt, h]

theorem State.checkForInterrupt_raised (hend : ft ≤ s.cfg.interruptTact + s.cfg.longestOpTacts)
    (hraised : s.devRaised = true) : s.checkForInterrupt ft = s := by
  simp [checkForInterrupt, hraised, Nat.not_lt.mpr hend]

variable (hrevoked : s.devRevoked = false) (hstart : s.cfg.interruptTact ≤ ft)
include hrevoked hstart

theorem State.checkForInterrupt_after (hend : s.cfg.interruptTact + s.cfg.longestOpTacts < ft) :
    s.checkForInterrupt ft = { s with devRevoked := true, reqInt := false } := by
  simp [checkForInterrupt, hrevoked, Nat.not_lt.mpr hstart, hend]

theorem State.checkForInterrupt_idle (hend : ft ≤ s.cfg.interruptTact + s.cfg.longestOpTacts)
    (hraised : s.devRaised = false) :
    s.checkForInterrupt ft = { s with devRaised := true, reqInt := true } := by
  simp [checkForInterrupt, hrevoked, hraised, Nat.not_lt.mpr hstart, Nat.not_lt.mpr hend]

end

theorem State.deviceStep_sameFrame {s : State} (h : s.frameIndex = s.devFrame) :
    s.deviceStep = s.checkForInterrupt s.frameTact := by
  rw [deviceStep, startFrame, if_pos h]

theorem State.deviceStep_newFrame {s : State} (h : s.frameIndex ≠ s.devFrame) :
    s.deviceStep = ({ s with devRaised := false, devRevoked := false, devFrame := s.frameIndex }).checkForInterrupt
      s.frameTact := by
  rw [deviceStep, startFrame, if_neg h]

/-- Settles O14: the rule of the device, case by case. -/
theorem interruptDevice : Obligations.InterruptDevice := by
  unfold Obligations.InterruptDevice
  refine ⟨fun s ft => ⟨State.checkForInterrupt_revoked, fun _ => State.checkForInterrupt_before,
    State.checkForInterrupt_after, fun hrevoked hstart hend => ?window⟩, fun s => ?frame⟩
  case window =>
    exact ⟨State.checkForInterrupt_raised hend, State.checkForInterrupt_idle hrevoked hstart hend⟩
  case frame => exact ⟨State.deviceStep_sameFrame, State.deviceStep_newFrame, rfl, rfl, rfl⟩

/-- A raised or revoked device stays so, and asserts nothing more (R422, R424). -/
theorem State.checkForInterrupt_once (s : State) (ft : Nat) :
    (s.devRaised = true →
      (s.checkForInterrupt ft).devRaised = true ∧ ((s.checkForInterrupt ft).reqInt = true → s.reqInt = true)) ∧
    (s.devRevoked = true →
      (s.checkForInterrupt ft).devRevoked = true ∧ ((s.checkForInterrupt ft).reqInt = true → s.reqInt = true)) := by
  unfold checkForInterrupt
  repeat' split
  all_goals simp_all

/-- No instruction touches the device (R44). -/
theorem reservedAfter_device (j : Instr) (s : State) :
    (reservedAfter j s).devRaised = s.devRaised ∧ (reservedAfter j s).devRevoked = s.devRevoked := by
  unfold reservedAfter
  split <;> exact ⟨rfl, rfl⟩

/-- Nor does any action of the engine but the reset (R423). -/
theorem State.engineStep_device {s t : State} (hreset : s.reqReset = false) (h : s.engineStep = .next t) :
    t.devRaised = s.devRaised ∧ t.devRevoked = s.devRevoked := by
  suffices hsame : t.reserved.devRaised = s.reserved.devRaised ∧ t.reserved.devRevoked = s.reserved.devRevoked from hsame
  cases hnmi : s.reqNmi
  case true =>
    cases (engineStep_nmi hreset hnmi).symm.trans h
    rw [serviceNmi_reserved]
    exact ⟨rfl, rfl⟩
  cases hint : s.acceptsInt
  case true =>
    obtain ⟨n, w, rfl⟩ := serviceInt_cases ((engineStep_int hreset hnmi hint).symm.trans h)
    have hkept := s.acceptInt_reserved
    exact ⟨(congrArg Reserved.devRaised hkept :), (congrArg Reserved.devRevoked hkept :)⟩
  cases hhalted : s.halted
  case true =>
    cases (engineStep_halted hreset hnmi hint hhalted).symm.trans h
    exact ⟨rfl, rfl⟩
  case false =>
    obtain ⟨u, hu, rfl⟩ := decodeAndExecute_reserved ((engineStep_instr hreset hnmi hint hhalted).symm.trans h)
    have hdevice := reservedAfter_device (coreOf s.instrAt) s.beginInstr
    rw [← hu] at hdevice
    exact hdevice

/-- Settles O15: in its frame the device only moves on, and the engine sets no request. -/
theorem oncePerFrame : Obligations.OncePerFrame := by
  unfold Obligations.OncePerFrame
  intro s t h hframe hreset
  have hstep := step_cases h
  have hkept := State.engineStep_device (s.deviceStep_reqReset.trans hreset) hstep
  obtain ⟨hraised, hrevoked⟩ := hkept
  obtain ⟨-, hint, -, -⟩ := requestBits _ _ hstep
  have honce := s.checkForInterrupt_once s.frameTact
  rw [← State.deviceStep_sameFrame hframe, ← hraised, ← hrevoked] at honce
  obtain ⟨honceRaised, honceRevoked⟩ := honce
  exact ⟨fun e => (honceRaised e).imp_right (·.comp hint), fun e => (honceRevoked e).imp_right (·.comp hint)⟩

/-! ### The debug hooks (R440) -/

/-- Settles O30: each hook is one write, or the refusal. -/
theorem debugHooks : Obligations.DebugHooks := by
  unfold Obligations.DebugHooks
  intro s x m
  refine ⟨rfl, rfl, rfl, rfl, rfl, fun hm => ?refused, rfl, ?blocked⟩
  case refused =>
    obtain ⟨k, rfl⟩ := Nat.exists_eq_add_of_le' hm
    rfl
  case blocked => simp [State.acceptsInt, State.hostBlockInterrupt]

/-! ### The reset (R450 to R452) -/

/-- Settles O6: a request changes nothing that the reset action reads. -/
theorem resetAction : Obligations.ResetAction := by
  unfold Obligations.ResetAction
  intro s t
  have hzero : mkWord 0 0 = 0 := by decide
  have hreq : s.requestReset.engineStep = .next s.requestReset.resetAction := State.engineStep_reset rfl
  exact ⟨hreq, State.engineStep_reset, rfl, hzero, hzero, hzero, hzero, rfl, rfl, rfl, rfl, rfl, rfl, rfl, rfl, rfl,
    rfl, rfl, rfl, rfl, rfl, rfl, rfl, rfl, rfl, rfl, rfl, rfl, rfl, rfl, rfl, rfl, rfl, rfl, rfl, rfl⟩

/-- Settles O7: the construction state holds zeros, and its own frame index is 0. -/
theorem resetState : Obligations.ResetState := by
  unfold Obligations.ResetState
  decide

end Sys2Proof.Machine
end

section
/-! SUPPORT. 70_reset_and_hazards.md: the timing table without contention (R470 to R474). -/

namespace Sys2Proof.Machine

/-! ### The conditional operations, on either branch (R473) -/

section
variable {s : State} (hcontend : s.Uncontended)
include hcontend

theorem countAndJump_tacts (e : Byte) :
    (countAndJump e s).tacts = s.tacts + BitVec.ofNat 64 (if s.b = 1 then 8 else 13) := by
  simp only [← sub_eq_zero (a := s.b), countAndJump]
  split
  all_goals simp [State.jumpRelative, State.waitMem, hcontend _, BitVec.add_assoc]

theorem jumpRelativeIf_tacts (cc : Cond) (e : Byte) :
    (jumpRelativeIf cc e s).tacts = s.tacts + BitVec.ofNat 64 (if s.cond cc then 12 else 7) := by
  unfold jumpRelativeIf
  split
  all_goals simp [State.jumpRelative, State.waitMem, hcontend _, BitVec.add_assoc]

/-- The tacts do not depend on the condition: `nn` is fetched either way (R331). -/
theorem jumpIf_tacts (cc : Cond) (nn : Word) : (jumpIf cc nn s).tacts = s.tacts + 10 := by
  simp only [jumpIf]
  split
  all_goals simp [State.waitMem, hcontend _, BitVec.add_assoc]

theorem callIf_tacts (cc : Cond) (nn : Word) :
    (callIf cc nn s).tacts = s.tacts + BitVec.ofNat 64 (if s.cond cc then 17 else 10) := by
  simp only [callIf]
  split
  all_goals simp [callTo, State.push, State.waitMem, hcontend _, BitVec.add_assoc]

theorem returnIf_tacts (cc : Cond) :
    (returnIf cc s).tacts = s.tacts + BitVec.ofNat 64 (if s.cond cc then 11 else 5) := by
  simp only [returnIf]
  split
  all_goals simp [State.returnFromStack, State.popCycles, State.waitMem, hcontend _, BitVec.add_assoc]

theorem blockLoadRepeat_tacts (step : Word) :
    (blockLoadRepeat step s).tacts = s.tacts + BitVec.ofNat 64 (if s.bc = 1 then 16 else 21) := by
  rw [blockLoadRepeat_eq]
  split
  all_goals simp [State.repeatAt, blockLoad_tacts step s hcontend, BitVec.add_assoc]

theorem blockCompareRepeat_tacts (step : Word) :
    (blockCompareRepeat step s).tacts =
      s.tacts + BitVec.ofNat 64 (if s.bc = 1 ∨ s.a = s.peek s.hl then 16 else 21) := by
  rw [blockCompareRepeat_eq]
  split
  all_goals simp [State.repeatAt, blockCompare_tacts step s hcontend, BitVec.add_assoc]

end

/-- The repetition of block I/O adds 5 tacts while the new `B` is not 0 (R195). -/
theorem blockIoRepeat_tacts {s t : State} (hb : t.b = s.b - 1) (ht : t.tacts = s.tacts + 16) (pc0 : Word) :
    (blockIoRepeat pc0 t).tacts = s.tacts + BitVec.ofNat 64 (if s.b = 1 then 16 else 21) := by
  simp only [← sub_eq_zero (a := s.b), blockIoRepeat, hb]
  split
  all_goals simp [ht, BitVec.add_assoc]

/-! ### The table (R473) -/

/-- Every instruction of the tables takes the tacts its accesses and internal tacts add up to (R473). -/
theorem runTable_tacts {j : Instr} (h : j.inTables = true) {s : State} (hcontend : s.Uncontended) :
    ∃ t, runTable j s = .next t ∧ t.tacts = s.tacts + BitVec.ofNat 64 (tactsIn s j) := by
  cases j
  case cbPrefix | ddPrefix | edPrefix | fdPrefix | ixCbPrefix | iyCbPrefix | ixIgnored | iyIgnored => cases h
  all_goals refine ⟨_, rfl, ?_⟩
  case djnz e => exact countAndJump_tacts hcontend e
  case jrCc cc e => exact jumpRelativeIf_tacts hcontend cc e
  case jpCcNn cc nn => exact jumpIf_tacts hcontend cc nn
  case callCcNn cc nn => exact callIf_tacts hcontend cc nn
  case retCc cc => exact returnIf_tacts hcontend cc
  case ldir | lddr => exact blockLoadRepeat_tacts hcontend _
  case cpir | cpdr => exact blockCompareRepeat_tacts hcontend _
  case inir | indr => exact blockIoRepeat_tacts (by simp [blockIn]) (blockIn_tacts _ s hcontend) s.pc
  case otir | otdr => exact blockIoRepeat_tacts (by simp [blockOut]) (blockOut_tacts _ s hcontend) s.pc
  all_goals simp [tactsIn, State.waitMem, hcontend _, BitVec.add_assoc, hcontend, aluReg_tacts, aluImm_tacts,
    aluMemHl_tacts, aluMemIdx_tacts, aluHalf_tacts, incReg_tacts, decReg_tacts, incHalf_tacts, decHalf_tacts,
    accFlags_tacts, negate_tacts, modifyIdxCbCopy_tacts, modifyIdxCb_tacts, rotateAcc_tacts, rotateReg_tacts,
    rotateDigit_tacts, bitReg_tacts, bitMemHl_tacts, bitMemIdx_tacts, addHl_tacts, adcHl_tacts, sbcHl_tacts,
    addXy_tacts, portOutImm_tacts, portInImm_tacts, portInFlags_tacts, portInReg_tacts, portOutBc_tacts,
    blockIn_tacts, blockOut_tacts, loadSpecial_tacts, loadIdxReg_tacts, storeIdxReg_tacts, storeIdxImm_tacts,
    blockLoad_tacts, blockCompare_tacts, exchangeAf_tacts, exchangeSets_tacts, returnFromInterrupt_tacts, modifyMem,
    exchangeTop, loadWordCycles, storeWord, storeA, loadA, State.jumpRelative, State.returnFromStack, callTo,
    State.push, State.popCycles, enterHalt]

/-- An opcode fetch moves nothing that the table depends on. -/
theorem tactsIn_fetchOpcode {j : Instr} (h : j.inTables = true) (s : State) : tactsIn s.fetchOpcode j = tactsIn s j := by
  cases j
  case ixIgnored | iyIgnored => cases h
  all_goals rfl

theorem Uncontended.coreStart {s : State} (h : s.Uncontended) (j : Instr) : (coreStart j s).Uncontended :=
  Uncontended.of_cfg h (congrArg Reserved.cfg (reserved_coreStart j s) :)

/-- The one more opcode fetch of an ignored prefix takes 4 tacts (R389). -/
theorem tacts_coreStart {j : Instr} (hwf : j.wf = true) (hrow : j.isPrefixRow = false) {s : State}
    (hcontend : s.Uncontended) :
    (coreStart j s).tacts + BitVec.ofNat 64 (tactsIn (coreStart j s) (coreOf j)) =
      s.tacts + BitVec.ofNat 64 (tactsIn s j) := by
  cases j
  case ixIgnored base | iyIgnored base =>
    show s.fetchOpcode.tacts + BitVec.ofNat 64 (tactsIn s.fetchOpcode base) =
      s.tacts + BitVec.ofNat 64 (4 + tactsIn s base)
    have htab : base.inTables = true := inTables_coreOf hwf hrow
    rw [fetchOpcode_uncontended hcontend, tactsIn_fetchOpcode htab, BitVec.ofNat_add, BitVec.add_assoc]
    rfl
  all_goals rfl

/-- Settles O22: the instruction a term runs takes its tacts, and an ignored prefix the 4 of its fetch before it. -/
theorem tactsTable : Obligations.TactsTable := by
  unfold Obligations.TactsTable
  intro j s hcontend hwf hrow
  obtain ⟨t, ht, htacts⟩ := runTable_tacts (inTables_coreOf hwf hrow) (Uncontended.coreStart hcontend j)
  exact ⟨t, (exec_eq_runTable hrow s).trans ht, htacts.trans (tacts_coreStart hwf hrow hcontend)⟩

/-! ### The longest step (R474) -/

theorem tactsIn_le {j : Instr} (h : j.inTables = true) (s : State) : tactsIn s j ≤ 23 := by
  cases j
  case ixIgnored | iyIgnored => cases h
  case djnz | jrCc | callCcNn | retCc | ldir | lddr | cpir | cpdr | inir | indr | otir | otdr =>
    simp only [tactsIn]
    split <;> decide
  all_goals exact Nat.le_of_ble_eq_true rfl

theorem tactsIn_le_of_prefixFree {j : Instr} (h : j.prefixFree = true) (s : State) : tactsIn s j ≤ 19 := by
  cases j
  case djnz | jrCc | callCcNn | retCc =>
    simp only [tactsIn]
    split <;> decide
  case ldDdNn | incSs | decSs | incR | decR | ldRN | addAR | adcAR | subR | sbcAR | andR | xorR | orR | cpR | ldRR
    | popQq | pushQq => exact Nat.le_of_ble_eq_true rfl
  all_goals cases h
  all_goals exact Nat.le_of_ble_eq_true rfl

theorem exec_tacts_le {j : Instr} (hwf : j.wf = true) (hrow : j.isPrefixRow = false) {s t : State}
    (hcontend : s.Uncontended) (h : exec j s = .next t) : ∃ n ≤ 23, t.tacts = s.tacts + BitVec.ofNat 64 n := by
  refine ⟨tactsIn s j, ?_, next_of_exists h (tactsTable j s hcontend hwf hrow)⟩
  cases j
  case cbPrefix | ddPrefix | edPrefix | fdPrefix | ixCbPrefix | iyCbPrefix => cases hrow
  case ixIgnored base | iyIgnored base =>
    have hbase := tactsIn_le_of_prefixFree (Bool.and_eq_true_iff.mp hwf).1 s
    exact Nat.add_le_add_left hbase 4
  all_goals exact tactsIn_le rfl s

theorem State.serviceInt_tacts {s t : State} (hcontend : s.Uncontended) (h : s.serviceInt = .next t) :
    ∃ n ≤ 23, t.tacts = s.tacts + BitVec.ofNat 64 n := by
  unfold serviceInt at h
  split at h
  · cases h
    exact ⟨13, by decide, (enterAt_tacts _ _).trans (acceptInt_tacts hcontend)⟩
  · cases h
    exact ⟨19, by decide, (enterAt_tacts _ _).trans (vectorRead_tacts hcontend _)⟩
  · split at h
    · cases h
      exact ⟨13, by decide, (enterAt_tacts _ _).trans (acceptInt_tacts hcontend)⟩
    · cases h

theorem State.engineStep_tacts {s t : State} (hcontend : s.Uncontended) (h : s.engineStep = .next t) :
    ∃ n ≤ 23, t.tacts = s.tacts + BitVec.ofNat 64 n := by
  obtain ⟨rfl, -⟩ | rfl | rfl | hint | hinstr := engineStep_cases h
  · exact ⟨4, by decide, rfl⟩
  · exact ⟨0, by decide, (BitVec.add_zero s.tacts).symm⟩
  · exact ⟨11, by decide, takeInterrupt_tacts { s with reqNmi := false, iff1 := false } 5 hcontend⟩
  · exact serviceInt_tacts hcontend hint
  · obtain ⟨u, hu, rfl⟩ := decodeAndExecute_cases hinstr
    obtain ⟨hwf, hrow⟩ := s.instrAt_decoded
    have hbegin : s.beginInstr.Uncontended := hcontend
    have hle := exec_tacts_le hwf hrow hbegin hu
    exact hle

/-- Settles O23: no action of the engine takes more than 23, and the table gives the forms that take as many. -/
theorem longestStep : Obligations.LongestStep := by
  unfold Obligations.LongestStep
  refine ⟨fun s t => State.engineStep_tacts, ?_, rfl⟩
  intro s k d op rr b hcontend takes
  have htakes {j : Instr} (hwf : j.wf = true) (hrow : j.isPrefixRow = false) : takes (tactsIn s j) j :=
    tactsTable j s hcontend hwf hrow
  refine ⟨?inc, ?dec, ?exchange, ?rotate, ?rotateCopy, ?set, ?res, ?setCopy, ?resCopy, fun j hj => ?redundant⟩
  case redundant => exact ⟨_, exec_of_isRedundant hj s, fetchOpcode_uncontended hcontend⟩
  case rotate | rotateCopy => cases op <;> cases k <;> exact htakes rfl rfl
  all_goals cases k <;> exact htakes rfl rfl

end Sys2Proof.Machine
end
